-- ==== Sys2Proof/Word.lean ====
section
/-! DEFINITION. The byte, and the names by which the spec indexes its state: axles, corners, wheels, doors, ports,
frame groups and channels (spec/00_scope.md section 4.3, R162, R193), each with the record type that holds one value
for every member. -/

namespace Sys2Proof

/-- A byte of a frame, of a reply or of the profile. -/
abbrev Byte := BitVec 8

/-- A set of corners: bit i is corner i in the order AL, AR, BL, BR, CL, CR (00 section 4.3, R185). -/
abbrev Corners := BitVec 6

/-- The three axles (00 section 1.1). -/
inductive Axle where
  | a | b | c
  deriving DecidableEq, Repr

def Axle.all : List Axle := [.a, .b, .c]

/-- The member's position in index order. -/
def Axle.num : Axle → Nat
  | .a => 0
  | .b => 1
  | .c => 2

/-- One value for each Axle. -/
@[ext]
structure PerAxle (α : Type) where
  a : α
  b : α
  c : α
  deriving DecidableEq, Repr

def PerAxle.get {α : Type} (v : PerAxle α) : Axle → α
  | .a => v.a
  | .b => v.b
  | .c => v.c

def PerAxle.set {α : Type} (v : PerAxle α) (i : Axle) (x : α) : PerAxle α :=
  match i with
  | .a => { v with a := x }
  | .b => { v with b := x }
  | .c => { v with c := x }

def PerAxle.ofFn {α : Type} (f : Axle → α) : PerAxle α :=
  ⟨f .a, f .b, f .c⟩

def PerAxle.fill {α : Type} (x : α) : PerAxle α :=
  ⟨x, x, x⟩

def PerAxle.map {α β : Type} (f : α → β) (v : PerAxle α) : PerAxle β :=
  ⟨f v.a, f v.b, f v.c⟩

def PerAxle.toList {α : Type} (v : PerAxle α) : List α :=
  [v.a, v.b, v.c]

/-- The six suspension corners, in index order 0..5 (00 section 4.3). -/
inductive Corner where
  | al | ar | bl | br | cl | cr
  deriving DecidableEq, Repr

def Corner.all : List Corner := [.al, .ar, .bl, .br, .cl, .cr]

/-- The member's position in index order. -/
def Corner.num : Corner → Nat
  | .al => 0
  | .ar => 1
  | .bl => 2
  | .br => 3
  | .cl => 4
  | .cr => 5

/-- One value for each Corner. -/
@[ext]
structure PerCorner (α : Type) where
  al : α
  ar : α
  bl : α
  br : α
  cl : α
  cr : α
  deriving DecidableEq, Repr

def PerCorner.get {α : Type} (v : PerCorner α) : Corner → α
  | .al => v.al
  | .ar => v.ar
  | .bl => v.bl
  | .br => v.br
  | .cl => v.cl
  | .cr => v.cr

def PerCorner.set {α : Type} (v : PerCorner α) (i : Corner) (x : α) : PerCorner α :=
  match i with
  | .al => { v with al := x }
  | .ar => { v with ar := x }
  | .bl => { v with bl := x }
  | .br => { v with br := x }
  | .cl => { v with cl := x }
  | .cr => { v with cr := x }

def PerCorner.ofFn {α : Type} (f : Corner → α) : PerCorner α :=
  ⟨f .al, f .ar, f .bl, f .br, f .cl, f .cr⟩

def PerCorner.fill {α : Type} (x : α) : PerCorner α :=
  ⟨x, x, x, x, x, x⟩

def PerCorner.map {α β : Type} (f : α → β) (v : PerCorner α) : PerCorner β :=
  ⟨f v.al, f v.ar, f v.bl, f v.br, f v.cl, f v.cr⟩

def PerCorner.toList {α : Type} (v : PerCorner α) : List α :=
  [v.al, v.ar, v.bl, v.br, v.cl, v.cr]

/-- The four wheel-speed inputs, in record order 17..20 (01 section 1.1). -/
inductive Wheel where
  | al | ar | cl | cr
  deriving DecidableEq, Repr

def Wheel.all : List Wheel := [.al, .ar, .cl, .cr]

/-- The member's position in index order. -/
def Wheel.num : Wheel → Nat
  | .al => 0
  | .ar => 1
  | .cl => 2
  | .cr => 3

/-- One value for each Wheel. -/
@[ext]
structure PerWheel (α : Type) where
  al : α
  ar : α
  cl : α
  cr : α
  deriving DecidableEq, Repr

def PerWheel.get {α : Type} (v : PerWheel α) : Wheel → α
  | .al => v.al
  | .ar => v.ar
  | .cl => v.cl
  | .cr => v.cr

def PerWheel.set {α : Type} (v : PerWheel α) (i : Wheel) (x : α) : PerWheel α :=
  match i with
  | .al => { v with al := x }
  | .ar => { v with ar := x }
  | .cl => { v with cl := x }
  | .cr => { v with cr := x }

def PerWheel.ofFn {α : Type} (f : Wheel → α) : PerWheel α :=
  ⟨f .al, f .ar, f .cl, f .cr⟩

def PerWheel.fill {α : Type} (x : α) : PerWheel α :=
  ⟨x, x, x, x⟩

def PerWheel.map {α β : Type} (f : α → β) (v : PerWheel α) : PerWheel β :=
  ⟨f v.al, f v.ar, f v.cl, f v.cr⟩

def PerWheel.toList {α : Type} (v : PerWheel α) : List α :=
  [v.al, v.ar, v.cl, v.cr]

/-- The four doors; `num` counts from 0, the spec's door number from 1 (00 section 4.3). -/
inductive Door where
  | d1 | d2 | d3 | d4
  deriving DecidableEq, Repr

def Door.all : List Door := [.d1, .d2, .d3, .d4]

/-- The member's position in index order. -/
def Door.num : Door → Nat
  | .d1 => 0
  | .d2 => 1
  | .d3 => 2
  | .d4 => 3

/-- One value for each Door. -/
@[ext]
structure PerDoor (α : Type) where
  d1 : α
  d2 : α
  d3 : α
  d4 : α
  deriving DecidableEq, Repr

def PerDoor.get {α : Type} (v : PerDoor α) : Door → α
  | .d1 => v.d1
  | .d2 => v.d2
  | .d3 => v.d3
  | .d4 => v.d4

def PerDoor.set {α : Type} (v : PerDoor α) (i : Door) (x : α) : PerDoor α :=
  match i with
  | .d1 => { v with d1 := x }
  | .d2 => { v with d2 := x }
  | .d3 => { v with d3 := x }
  | .d4 => { v with d4 := x }

def PerDoor.ofFn {α : Type} (f : Door → α) : PerDoor α :=
  ⟨f .d1, f .d2, f .d3, f .d4⟩

def PerDoor.fill {α : Type} (x : α) : PerDoor α :=
  ⟨x, x, x, x⟩

def PerDoor.map {α β : Type} (f : α → β) (v : PerDoor α) : PerDoor β :=
  ⟨f v.d1, f v.d2, f v.d3, f v.d4⟩

def PerDoor.toList {α : Type} (v : PerDoor α) : List α :=
  [v.d1, v.d2, v.d3, v.d4]

/-- The three controller ports PORT-F, PORT-R and PORT-B, coded 0, 1, 2 (R200). -/
inductive PortId where
  | f | r | b
  deriving DecidableEq, Repr

def PortId.all : List PortId := [.f, .r, .b]

/-- The member's position in index order. -/
def PortId.num : PortId → Nat
  | .f => 0
  | .r => 1
  | .b => 2

/-- One value for each PortId. -/
@[ext]
structure PerPort (α : Type) where
  f : α
  r : α
  b : α
  deriving DecidableEq, Repr

def PerPort.get {α : Type} (v : PerPort α) : PortId → α
  | .f => v.f
  | .r => v.r
  | .b => v.b

def PerPort.set {α : Type} (v : PerPort α) (i : PortId) (x : α) : PerPort α :=
  match i with
  | .f => { v with f := x }
  | .r => { v with r := x }
  | .b => { v with b := x }

def PerPort.ofFn {α : Type} (f : PortId → α) : PerPort α :=
  ⟨f .f, f .r, f .b⟩

def PerPort.fill {α : Type} (x : α) : PerPort α :=
  ⟨x, x, x⟩

def PerPort.map {α β : Type} (f : α → β) (v : PerPort α) : PerPort β :=
  ⟨f v.f, f v.r, f v.b⟩

def PerPort.toList {α : Type} (v : PerPort α) : List α :=
  [v.f, v.r, v.b]

/-- The three frame groups, coded 0, 1, 2 (R162, R187). -/
inductive FrameGroup where
  | brk | lvl | str
  deriving DecidableEq, Repr

def FrameGroup.all : List FrameGroup := [.brk, .lvl, .str]

/-- The member's position in index order. -/
def FrameGroup.num : FrameGroup → Nat
  | .brk => 0
  | .lvl => 1
  | .str => 2

/-- One value for each FrameGroup. -/
@[ext]
structure PerGroup (α : Type) where
  brk : α
  lvl : α
  str : α
  deriving DecidableEq, Repr

def PerGroup.get {α : Type} (v : PerGroup α) : FrameGroup → α
  | .brk => v.brk
  | .lvl => v.lvl
  | .str => v.str

def PerGroup.set {α : Type} (v : PerGroup α) (i : FrameGroup) (x : α) : PerGroup α :=
  match i with
  | .brk => { v with brk := x }
  | .lvl => { v with lvl := x }
  | .str => { v with str := x }

def PerGroup.ofFn {α : Type} (f : FrameGroup → α) : PerGroup α :=
  ⟨f .brk, f .lvl, f .str⟩

def PerGroup.fill {α : Type} (x : α) : PerGroup α :=
  ⟨x, x, x⟩

def PerGroup.map {α β : Type} (f : α → β) (v : PerGroup α) : PerGroup β :=
  ⟨f v.brk, f v.lvl, f v.str⟩

def PerGroup.toList {α : Type} (v : PerGroup α) : List α :=
  [v.brk, v.lvl, v.str]

/-- A door's number in commands and in the fault list: 1..4. -/
def Door.number (d : Door) : Nat := d.num + 1

/-- The opposite corner of the same axle (01 section 1.1). -/
def Corner.opposite : Corner → Corner
  | .al => .ar | .ar => .al | .bl => .br | .br => .bl | .cl => .cr | .cr => .cl

/-- The axle a corner belongs to. -/
def Corner.axle : Corner → Axle
  | .al | .ar => .a
  | .bl | .br => .b
  | .cl | .cr => .c

def Axle.left : Axle → Corner
  | .a => .al | .b => .bl | .c => .cl

def Axle.right : Axle → Corner
  | .a => .ar | .b => .br | .c => .cr

/-- The twenty output channels (R162): inlet and exhaust valve of each axle, the joint damper, fill and vent valve of
each corner, and the rear-steer bridge. -/
inductive Chan where
  | inlet (x : Axle) | exhaust (x : Axle) | joint | fill (i : Corner) | vent (i : Corner) | bridge
  deriving DecidableEq, Repr

/-- The channel's number 0..19 (second table of 09 section 9.1). -/
def Chan.num : Chan → Nat
  | .inlet x => 2 * x.num
  | .exhaust x => 2 * x.num + 1
  | .joint => 6
  | .fill i => 7 + i.num
  | .vent i => 13 + i.num
  | .bridge => 19

/-- All channels in the order of their numbers. -/
def Chan.all : List Chan :=
  [.inlet .a, .exhaust .a, .inlet .b, .exhaust .b, .inlet .c, .exhaust .c, .joint] ++
    Corner.all.map .fill ++ Corner.all.map .vent ++ [.bridge]

/-- The frame group a channel belongs to (R162). -/
def Chan.group : Chan → FrameGroup
  | .inlet _ | .exhaust _ | .joint => .brk
  | .fill _ | .vent _ => .lvl
  | .bridge => .str

/-- The channels of one group in the order of their numbers. -/
def FrameGroup.channels : FrameGroup → List Chan
  | .brk => [.inlet .a, .exhaust .a, .inlet .b, .exhaust .b, .inlet .c, .exhaust .c, .joint]
  | .lvl => Corner.all.map .fill ++ Corner.all.map .vent
  | .str => [.bridge]

/-- One value for each channel. -/
@[ext]
structure PerChan (α : Type) where
  inlet : PerAxle α
  exhaust : PerAxle α
  joint : α
  fill : PerCorner α
  vent : PerCorner α
  bridge : α
  deriving DecidableEq, Repr

def PerChan.get {α : Type} (v : PerChan α) : Chan → α
  | .inlet x => v.inlet.get x
  | .exhaust x => v.exhaust.get x
  | .joint => v.joint
  | .fill i => v.fill.get i
  | .vent i => v.vent.get i
  | .bridge => v.bridge

def PerChan.set {α : Type} (v : PerChan α) (k : Chan) (y : α) : PerChan α :=
  match k with
  | .inlet x => { v with inlet := v.inlet.set x y }
  | .exhaust x => { v with exhaust := v.exhaust.set x y }
  | .joint => { v with joint := y }
  | .fill i => { v with fill := v.fill.set i y }
  | .vent i => { v with vent := v.vent.set i y }
  | .bridge => { v with bridge := y }

def PerChan.ofFn {α : Type} (f : Chan → α) : PerChan α where
  inlet := .ofFn fun x => f (.inlet x)
  exhaust := .ofFn fun x => f (.exhaust x)
  joint := f .joint
  fill := .ofFn fun i => f (.fill i)
  vent := .ofFn fun i => f (.vent i)
  bridge := f .bridge

/-- The sampled records that have a hold window of their own (01 section 1.3). -/
inductive SampledRec where
  | hgt (i : Corner) | prs (i : Corner) | brp (x : Axle) | wsp (w : Wheel) | vsup
  deriving DecidableEq, Repr

/-- The two paired records (01 section 1.4). -/
inductive PairRec where
  | art | rst
  deriving DecidableEq, Repr

/-- The two brake sources (07 section 7.2). -/
inductive DemandSource where
  | service | intervention
  deriving DecidableEq, Repr

/-- What an output stage can report (R172). -/
inductive DiagKind where
  | overCurrent | openLoad
  deriving DecidableEq, Repr

/-- At a BRK boundary the Stop Hold Controller's own actions may be taken before or after the modulator takes its
inputs (R133). Log entry 9. -/
inductive BoundaryOrder where
  | holdFirst | captureFirst
  deriving DecidableEq, Repr

end Sys2Proof
end

