-- ==== Sys2Proof/Syntax.lean ====
section
/-! DEFINITION. The commands of the block: one constructor of `Instr` per row of spec/opcode_table.json, in the
table's order. A constructor for a port command carries the port and the payload bytes of its frame, so that a frame
the port must refuse is an operand too (log entry 27). -/

namespace Sys2Proof

/-- One raw sample of a sensor input: none when the line check reports the sample missing (R4). -/
abbrev Reading := Option Nat

/-- The rows of spec/opcode_table.json. -/
inductive Instr where
  /-- POWER_ON. The supply comes up (R203). -/
  | powerOn
  /-- RST_N. The RST_N line is released (R203). -/
  | rstN
  /-- HEIGHT_SAMPLE. The shared 10 ms instant of the six height inputs (R3). -/
  | heightSample (raw : PerCorner Reading)
  /-- BELLOWS_SAMPLE. The shared 50 ms instant of the six bellows pressure inputs (R3). -/
  | bellowsSample (raw : PerCorner Reading)
  /-- PAIR_SAMPLE. The shared 1 ms instant of brake pressures and sensor pairs (R3). -/
  | pairSample (brp : PerAxle Reading) (art1 art2 rst1 rst2 : Reading)
  /-- WHEEL_SPEED_EVALUATION. The 10 ms evaluation of the wheel speeds, `usec` microseconds into the present millisecond (R4). -/
  | wheelSpeedEvaluation (lineFault : PerWheel Bool) (usec : Nat)
  /-- VSUP_SAMPLE. The 10 ms sample of the valve supply (R21). -/
  | vsupSample (raw : Reading)
  /-- HOLD_WINDOW_EXPIRY. The hold timer of a sampled record expires (R9). -/
  | holdWindowExpiry (k : SampledRec)
  /-- PAIR_HOLD_TIMER_EXPIRY. The hold timer of a paired record expires (R12). -/
  | pairHoldTimerExpiry (k : PairRec)
  /-- PORT_R_SPEED_EXPIRY. The validity of the PORT-R speed runs out (R16). -/
  | portRSpeedExpiry
  /-- DRIVE_INDICATION_EXPIRY. The validity of the drive indications runs out (R33). -/
  | driveIndicationExpiry
  /-- PASS_END. The running evaluation pass ends (R39). -/
  | passEnd
  /-- HOLD_APPLY. A HOLD frame that is not the RELEASE form (R49). -/
  | holdApply (p : PortId) (payload : List Byte)
  /-- HOLD_RELEASE. A HOLD frame of the RELEASE form (R56). -/
  | holdRelease (p : PortId) (payload : List Byte)
  /-- APPLYING_TIMER_EXPIRY. The applying timer expires (R54). -/
  | applyingTimerExpiry
  /-- QUIET_TIMER_EXPIRY. The quiet timer expires (R61). -/
  | quietTimerExpiry
  /-- DOOR_SETTLE. A closed switch is determined for the first time (R70). -/
  | doorSettle (d : Door) (made : Bool)
  /-- CLOSED_SWITCH_MAKE. A make (R68, R76, R78). -/
  | closedSwitchMake (d : Door)
  /-- CLOSED_SWITCH_BREAK. A break (R68, R73, R76, R79). -/
  | closedSwitchBreak (d : Door)
  /-- EDGE_SWITCH_PRESS. A press (R69, R77). -/
  | edgeSwitchPress (d : Door)
  /-- EDGE_SWITCH_RELEASE. A release (R69, R75). -/
  | edgeSwitchRelease (d : Door)
  /-- DOOR_OPEN. A DOOR frame that is not the CLOSE form (R71, R72). -/
  | doorOpen (p : PortId) (payload : List Byte)
  /-- DOOR_CLOSE. A DOOR frame of the CLOSE form (R71, R74). -/
  | doorClose (p : PortId) (payload : List Byte)
  /-- PHASE_TIMER_EXPIRY. A door's phase timer expires (R73, R77). -/
  | phaseTimerExpiry (d : Door)
  /-- PROOF_TIMER_EXPIRY. A door's proof timer expires (R76, R78). -/
  | proofTimerExpiry (d : Door)
  /-- LEVELLING_COMPUTATION. The levelling computation in progress ends (R85). -/
  | levellingComputation
  /-- HEIGHT_MODE_NORMAL. A HEIGHT MODE frame with operand NORMAL (R95). -/
  | heightModeNormal (p : PortId) (payload : List Byte)
  /-- HEIGHT_MODE_RAISED. A HEIGHT MODE frame with any other payload (R95). -/
  | heightModeRaised (p : PortId) (payload : List Byte)
  /-- SET_MASK. A SET MASK frame (R99). -/
  | setMask (p : PortId) (payload : List Byte)
  /-- READ_LEVEL. A READ LEVEL frame (R103). -/
  | readLevel (p : PortId) (payload : List Byte)
  /-- KNEEL. A KNEEL frame that is neither HALT nor RAISE (R108, R109). -/
  | kneel (p : PortId) (payload : List Byte)
  /-- HALT. A KNEEL frame with operation HALT (R112). -/
  | halt (p : PortId) (payload : List Byte)
  /-- RAISE. A KNEEL frame with operation RAISE (R114). -/
  | raise (p : PortId) (payload : List Byte)
  /-- LOWERING_TIMER_EXPIRY. The lowering timer expires (R113). -/
  | loweringTimerExpiry
  /-- RAISING_TIMER_EXPIRY. The raising timer expires (R115). -/
  | raisingTimerExpiry
  /-- BRAKE_DEMAND. A BRAKE DEMAND frame (R126). -/
  | brakeDemand (p : PortId) (payload : List Byte)
  /-- DEMAND_EXPIRY. A source's demand time left reaches 0 (R127). -/
  | demandExpiry (src : DemandSource)
  /-- MODULATOR_COMPUTATION. The modulator computation in progress ends (R133). -/
  | modulatorComputation
  /-- DEVIATION_TIMER_EXPIRY. An axle's deviation timer expires (R136). -/
  | deviationTimerExpiry (x : Axle)
  /-- READ_BRAKE. A READ BRAKE frame (R140). -/
  | readBrake (p : PortId) (payload : List Byte)
  /-- STEER_UPDATE. The 2 ms steer update (R153). -/
  | steerUpdate
  /-- SETTLE_TIMER_EXPIRY. The settle timer expires (R147). -/
  | settleTimerExpiry
  /-- CENTRING_TIMER_EXPIRY. The centring timer expires (R148). -/
  | centringTimerExpiry
  /-- TRACKING_TIMER_EXPIRY. The tracking timer expires (R156). -/
  | trackingTimerExpiry
  /-- JOINT_COMPUTATION. The joint damping computation in progress ends (R157). -/
  | jointComputation
  /-- READ_STEER. A READ STEER frame (R159). -/
  | readSteer (p : PortId) (payload : List Byte)
  /-- FRAME_BOUNDARY. A frame boundary of one group (R169). -/
  | frameBoundary (g : FrameGroup) (order : BoundaryOrder)
  /-- STARVATION_TIMER_EXPIRY. A group's starvation timer expires (R170). -/
  | starvationTimerExpiry (g : FrameGroup)
  /-- DRIVER_DIAG_REPORT. An output stage begins to report (R172). -/
  | driverDiagReport (k : Chan) (kind : DiagKind)
  /-- REARM. A REARM frame (R174). -/
  | rearm (p : PortId) (payload : List Byte)
  /-- TRANSACTION_START. A controller asserts a port's select (R180, R182). -/
  | transactionStart (p : PortId)
  /-- FRAME_ERROR. A transaction ends having delivered the bytes `rx` (R180, R181). -/
  | frameError (p : PortId) (rx : List Byte)
  /-- UNKNOWN_COMMAND. A valid frame with a command code of no command (R184, R186). -/
  | unknownCommand (p : PortId) (cmd : Byte) (payload : List Byte)
  /-- NOP. A NOP frame (R188). -/
  | nop (p : PortId) (payload : List Byte)
  /-- READ_STATUS. A READ STATUS frame (R188, R178). -/
  | readStatus (p : PortId) (payload : List Byte)
  /-- READ_IMAGE. A READ IMAGE frame (R23). -/
  | readImage (p : PortId) (payload : List Byte)
  /-- READ_ATTENTION. A READ ATTENTION frame (R192). -/
  | readAttention (p : PortId) (payload : List Byte)
  /-- READ_FAULTS. A READ FAULTS frame (R202). -/
  | readFaults (p : PortId) (payload : List Byte)
  /-- READ_PERMISSIONS. A READ PERMISSIONS frame (R44). -/
  | readPermissions (p : PortId) (payload : List Byte)
  /-- DRIVE_STATUS. A DRIVE STATUS frame (R16, R33, R189). -/
  | driveStatus (p : PortId) (payload : List Byte)
  /-- CLEAR_FAULT. A CLEAR FAULT frame (R202). -/
  | clearFault (p : PortId) (payload : List Byte)
  /-- CLEAR_DOUBT. A CLEAR DOUBT frame (R30). -/
  | clearDoubt (p : PortId) (payload : List Byte)
  /-- ENTER_SAFE. An ENTER SAFE frame (R189, R194). -/
  | enterSafe (p : PortId) (payload : List Byte)
  /-- PROFILE_WRITE. A PROFILE WRITE frame (R196). -/
  | profileWrite (p : PortId) (payload : List Byte)
  /-- PROFILE_READ. A PROFILE READ frame (R196). -/
  | profileRead (p : PortId) (payload : List Byte)
  /-- PROFILE_CONFIRM. A PROFILE CONFIRM frame (R197). -/
  | profileConfirm (p : PortId) (payload : List Byte)
  /-- SILENCE_TIMER_EXPIRY. A port's silence timer expires (R190). -/
  | silenceTimerExpiry (p : PortId)
  /-- START_UP_TIMER_EXPIRY. The start-up timer expires (R194). -/
  | startUpTimerExpiry
  /-- INTEGRITY_TIMER_EXPIRY. The integrity timer expires (R199). -/
  | integrityTimerExpiry
  /-- DRIVER_DIAG_CLEARED. An output stage stops reporting an open load (R172). -/
  | driverDiagCleared (k : Chan)
  /-- DOOR_SWITCH_SAMPLE. The 1 ms sample of all door switches (R68, R69). -/
  | doorSwitchSample (closed pressed : PerDoor Bool)
  /-- WHEEL_SPEED_PULSE_EDGE. A pulse edge, `usec` microseconds into the present millisecond (R4). -/
  | wheelSpeedPulseEdge (w : Wheel) (usec : Nat)
  /-- RST_N_ASSERTED. The RST_N line is driven low (R193, R203). -/
  | rstNAsserted
  deriving DecidableEq, Repr

end Sys2Proof
end

