-- ==== Sys2Proof/Decode.lean ====
section
/-! DEFINITION. The command that a word spells. No row of spec/opcode_table.json gives bits: the device's commands are
events, and frames of bytes whose payload the table does not place (log entry 32). The decoding of frames is
`frameOf` and `cmdOf` in Machine/Ports.lean. -/

namespace Sys2Proof

/-- No row has bits, so no word spells a command. -/
def decodeTableWord (_nbits _w : Nat) : Option Instr := none

end Sys2Proof
end

