-- ==== Sys2Proof/Config.lean ====
section
/-! DEFINITION. The free values (what the spec leaves open, with no body, so that no proof can see them) and the
numbers that are fixed in the device and that no profile sets. -/

namespace Sys2Proof.Config

/-- FREE VALUE (DESIGN CHOICE, log entry 11): the raw rate of a wheel whose two intervals are both 0 microseconds at
the time `at`; R4 divides by the longer one and states no result. -/
opaque zeroIntervalRate (w : Wheel) (time : Nat) : Nat

/-- FREE VALUE (DESIGN CHOICE, log entry 10): which of the wheel-speed records that share the highest value R15 means
by "the wheel-speed record chosen"; each is given as its record ID and its age. -/
opaque tiedWheel (tied : List (Nat × Nat)) : Nat

/-- Hold windows in ms (01 section 1.1). -/
def heightHold : Nat := 200
def bellowsHold : Nat := 500
def brakeHold : Nat := 50
def artHold : Nat := 50
def rstHold : Nat := 20
def wheelHold : Nat := 100
def supplyHold : Nat := 50

/-- Sample window sizes (R6). -/
def heightWindow : Nat := 8
def bellowsWindow : Nat := 16

/-- Validity of the PORT-R speed and of the drive indications, in ms (R16, R33). -/
def driveValidity : Nat := 100

/-- SHC: applying limit, creep quiet time and creep speed (R48). -/
def applyingTime : Nat := 1500
def quietTime : Nat := 1000
def creepSpeed : Int := 50

/-- DCU: the times of R67 and the debounce counts of R68 and R69. -/
def releasedTime : Nat := 30000
def closingTime : Nat := 15000
def proofTime : Nat := 200
def closedDebounce : Nat := 20
def edgeDebounce : Nat := 10

/-- VSPD limits of the floors of P_DOORn and P_HEIGHT_RAISED (R40), of a stand (R85) and of DOOR_OPEN_MOVING (R82). -/
def doorSpeed : Int := 300
def raisedSpeed : Int := 2000
def standSpeed : Int := 300
def movingSpeed : Int := 500

/-- BDU: deviation limit and time (R124), and the limit of BRAKE_ACTIVE (R132). -/
def deviationLimit : Int := 100
def deviationTime : Nat := 500
def brakeActiveLimit : Int := 50

/-- SJU: the fixed numbers of R143. -/
def settleTolerance : Int := 10
def settleTime : Nat := 100
def centringTime : Nat := 3000
def trackingLimit : Int := 150
def trackingTime : Nat := 500
def positionDeadband : Int := 3

/-- PFU: starvation window of each group in ms (R162). -/
def starveWindow : FrameGroup → Nat
  | .brk => 30 | .lvl => 300 | .str => 6

/-- CP: the silence time before the PORTS section is loaded (R190). -/
def defaultSilence : Nat := 1000

/-- PFS: start-up limit (R194), integrity period (R198) and the length of the fault list (R200). -/
def startUpTime : Nat := 500
def integrityTime : Nat := 1000
def faultListSize : Nat := 24

/-- The largest time since reset (R200) and the largest age (R1). -/
def maxTime : Nat := 4294967295
def maxAge : Nat := 65535

/-- The most rounds of reactions within one event: each round but the first trips at least one of the 20 channels (log
entry 8). -/
def reactionRounds : Nat := 21

end Sys2Proof.Config
end

