-- ==== Sys2Proof/Machine/State.lean ====
section
/-! DEFINITION. The machine's state as plain data, block by block (spec/00_scope.md section 2), the reasons a step can
stop, and the state after reset. A value that is a function of other fields is not stored: it is a view in
Machine/Flags.lean (log entry 41). Timers are `none` when stopped and `some n` with n ms left when running. -/

namespace Sys2Proof.Machine

/-- Reasons a step could stop with a fault. There is none: the spec gives every event a next state, and the faults it
speaks of are entries of the fault list (R201), an effect on `State`. -/
inductive Fault where
  deriving DecidableEq, Repr

/-- Reasons a step could be refused. -/
inductive Refusal where
  /-- Raised by an arm of `exec` for a row of the table that has no meaning yet, and by nothing else. Safe: the machine
  stops where the device goes on. No arm uses it. -/
  | notModelled (mnemonic : String)
  deriving DecidableEq, Repr

/-! ### Signal Acquisition -/

/-- R1, R2: from best to worst. -/
inductive Validity where
  | fresh | held | substituted | lost
  deriving DecidableEq, Repr

/-- The source of a record's value (R1). -/
inductive Origin where
  | primary | partner | port
  deriving DecidableEq, Repr

/-- An image record: the five fields of R1, and the hold timer of a sampled or paired record (R8, R12). -/
structure Rec where
  value : Int
  validity : Validity
  age : Nat
  source : Origin
  last : Int
  hold : Option Nat
  deriving DecidableEq, Repr

/-- R24. -/
def Rec.reset : Rec := ⟨0, .lost, Config.maxAge, .primary, 0, none⟩

/-- The 28 records of the chassis image (01 section 1.1). -/
structure Image where
  hgt : PerCorner Rec
  prs : PerCorner Rec
  brp : PerAxle Rec
  art : Rec
  rst : Rec
  wsp : PerWheel Rec
  vspd : Rec
  load : PerAxle Rec
  twist : Rec
  artRate : Rec
  vsup : Rec
  deriving DecidableEq, Repr

/-- One place of the ART history (R20). -/
structure HistVal where
  value : Int
  validity : Validity
  source : Origin
  deriving DecidableEq, Repr

/-- What a wheel-speed input keeps of its pulses, in microseconds of `usTime` (R4). -/
structure Pulses where
  lastEdge : Option Nat
  lastInterval : Option Nat
  deriving DecidableEq, Repr

structure Acquisition where
  image : Image
  hgtWin : PerCorner (List Int)
  prsWin : PerCorner (List Int)
  artDisagree : Bool
  rstDisagree : Bool
  /-- newest first, at most eleven -/
  artHist : List HistVal
  portSpeed : Nat
  portSpeedLeft : Option Nat
  pulses : PerWheel Pulses
  usTime : Nat
  sampled : BitVec 28
  deriving DecidableEq, Repr

/-! ### Parameters (the sections of the profile as the blocks read them) -/

/-- Raw band and conversion of one input (R5). -/
structure Band where
  rawLow : Int
  rawHigh : Int
  offset : Int
  scale : Int
  deriving DecidableEq, Repr

/-- SIGNALS (R5, R195). -/
structure SignalParams where
  hgt : PerCorner Band
  prs : PerCorner Band
  brp : PerAxle Band
  art1 : Band
  art2 : Band
  rst1 : Band
  rst2 : Band
  wsp : PerWheel Band
  vsup : Band
  artTol : Int
  rstTol : Int
  aeff : PerAxle Int
  unsprung : PerAxle Int
  vsupLow : Int
  deriving DecidableEq, Repr

/-- One compare slot (02 section 2.1); `signal` none stands for 255, unused. -/
structure SlotParams where
  signal : Option Nat
  threshold : Int
  halfWidth : Int
  latchDoubt : Bool
  deriving DecidableEq, Repr

/-- One term of the gate program (R34). -/
structure Term where
  op : Nat
  a : Nat
  b : Nat
  target : Nat
  deriving DecidableEq, Repr

/-- LEVEL, levelling part (R102). -/
structure LevelParams where
  coupling : PerCorner (PerCorner Int)
  kfill : PerCorner Int
  kvent : PerCorner Int
  dbStand : Int
  dbDrive : Int
  minPulse : Int
  maxWidthStand : Int
  maxWidthDrive : Int
  stagger : Int
  raiseHeight : Int
  deriving DecidableEq, Repr

inductive Side where
  | left | right
  deriving DecidableEq, Repr

/-- LEVEL, kneel part (R107). -/
structure KneelParams where
  curbSide : Side
  kneelDepth : Int
  kneelTol : Int
  rideTol : Int
  lowerTime : Nat
  raiseTime : Nat
  twistLimit : Int
  autoRaise : Bool
  deriving DecidableEq, Repr

/-- BRAKE (R124). -/
structure BrakeParams where
  ladenRef : PerAxle Int
  rMin : PerAxle Int
  pMax : PerAxle Int
  dbBrake : Int
  kin : PerAxle Int
  kex : PerAxle Int
  minPulse : Int
  deriving DecidableEq, Repr

/-- STEER (R144); `table` holds the pairs (v_k, g_k). -/
structure SteerParams where
  lockSpeed : Int
  table : List (Int × Int)
  polarity : Int
  maxAngle : Int
  rate : Int
  kp : Int
  dMax : Int
  dBase : Int
  kj : Int
  dRet : Int
  angleLimit : Int
  dLim : Int
  deriving DecidableEq, Repr

/-- The trip selection of one channel (R164); `index` none stands for 255. -/
structure TripSel where
  vsup : Bool
  diag : Bool
  starved : Bool
  index : Option Nat
  deriving DecidableEq, Repr

/-- FRAMES (R164). -/
structure FrameParams where
  deadTime : Nat
  sel : PerChan TripSel
  deriving DecidableEq, Repr

/-- HOLD (R48). -/
structure HoldParams where
  floor : PerAxle Int
  entrySpeed : Int
  tol : Int
  ramp : Int
  deriving DecidableEq, Repr

/-- PORTS (R190, R191). -/
structure PortParams where
  silence : PerPort Nat
  subscription : PerPort (BitVec 8)
  deriving DecidableEq, Repr

/-- Everything the blocks read of the profile. -/
structure Params where
  signals : SignalParams
  slots : List SlotParams
  gates : List Term
  level : LevelParams
  kneel : KneelParams
  brake : BrakeParams
  steer : SteerParams
  frames : FrameParams
  hold : HoldParams
  ports : PortParams
  deriving DecidableEq, Repr

/-- The readings before the first RUN entry after a reset: the built-in acquisition defaults (R5), polarity +1 (R144),
silence time 1000 and the built-in subscription (R190, R191); every other parameter reads 0. -/
def Params.unloaded : Params where
  signals :=
    { hgt := .fill ⟨0, 4095, 2048, 1500⟩, prs := .fill ⟨0, 4095, 0, 250⟩, brp := .fill ⟨0, 4095, 0, 250⟩,
      art1 := ⟨0, 4095, 2048, 2750⟩, art2 := ⟨0, 4095, 2048, 2750⟩,
      rst1 := ⟨0, 4095, 2048, 600⟩, rst2 := ⟨0, 4095, 2048, 600⟩,
      wsp := .fill ⟨0, 65535, 0, 1024⟩, vsup := ⟨0, 4095, 0, 1500⟩,
      artTol := 200, rstTol := 50, aeff := .fill 0, unsprung := .fill 0, vsupLow := 0 }
  slots := []
  gates := []
  level :=
    { coupling := .fill (.fill 0), kfill := .fill 0, kvent := .fill 0, dbStand := 0, dbDrive := 0, minPulse := 0,
      maxWidthStand := 0, maxWidthDrive := 0, stagger := 0, raiseHeight := 0 }
  kneel := ⟨.left, 0, 0, 0, 0, 0, 0, false⟩
  brake :=
    { ladenRef := .fill 0, rMin := .fill 0, pMax := .fill 0, dbBrake := 0, kin := .fill 0, kex := .fill 0,
      minPulse := 0 }
  steer :=
    { lockSpeed := 0, table := [(0, 0), (0, 0), (0, 0), (0, 0), (0, 0), (0, 0), (0, 0), (0, 0)], polarity := 1,
      maxAngle := 0, rate := 0, kp := 0, dMax := 0, dBase := 0, kj := 0, dRet := 0, angleLimit := 0, dLim := 0 }
  frames := ⟨0, .ofFn fun _ => ⟨false, false, false, none⟩⟩
  hold := ⟨.fill 0, 0, 0, 0⟩
  ports := ⟨.fill Config.defaultSilence, .fill 0xC0#8⟩

/-! ### Compare and Interlock Unit -/

/-- The nine permissions (R40), as published, as results of a pass, or as floors. -/
@[ext]
structure Perms where
  door : PerDoor Bool
  kneel : Bool
  holdRelease : Bool
  steerFree : Bool
  levelDrive : Bool
  heightRaised : Bool
  deriving DecidableEq, Repr

/-- A running evaluation pass: its snapshot of sources 0..87 and the program it started with (R38, R45). -/
structure Pass where
  snap : List Bool
  program : List Term
  deriving DecidableEq, Repr

structure Interlock where
  latches : BitVec 16
  perms : Perms
  results : Perms
  scratch : BitVec 16
  pass : Option Pass
  /-- the pending flag of R37 -/
  again : Bool
  pubNum : BitVec 16
  deriving DecidableEq, Repr

/-! ### Stop Hold Controller -/

inductive HoldState where
  | released | applying | applied | releasing
  deriving DecidableEq, Repr

structure Hold where
  state : HoldState
  pendingApply : Bool
  floor : PerAxle Int
  creep : Bool
  quiet : Option Nat
  applying : Option Nat
  notReached : PerAxle Bool
  lastFailed : PerAxle Bool
  deriving DecidableEq, Repr

/-! ### Door Channel Unit -/

inductive Phase where
  | shut | released | opened | closing | obstructed | unsettled
  deriving DecidableEq, Repr

inductive Contact where
  | made | broken | undetermined
  deriving DecidableEq, Repr

/-- A door record (R67) with its debounce counts (R68, R69). -/
structure DoorRec where
  phase : Phase
  closed : Contact
  pressed : Bool
  phaseTimer : Option Nat
  proofTimer : Option Nat
  forced : Bool
  proofTimeout : Bool
  moving : Bool
  closedCount : Nat
  closedLevel : Bool
  edgeCount : Nat
  deriving DecidableEq, Repr

/-! ### Levelling Unit -/

inductive HeightMode where
  | normal | raised
  deriving DecidableEq, Repr

inductive SpeedClass where
  | stand | motion
  deriving DecidableEq, Repr

inductive Mode where
  | start | config | run | safe
  deriving DecidableEq, Repr

inductive KneelState where
  | ride | lowering | paused | knelt | raising
  deriving DecidableEq, Repr

inductive KneelKind where
  | front | full
  deriving DecidableEq, Repr

/-- A staged or active value of a DELAYED channel (R163). -/
structure Pulse where
  delay : Int
  width : Int
  deriving DecidableEq, Repr

/-- What a levelling computation takes at its start (R85). -/
structure LevelInputs where
  hgt : PerCorner Rec
  target : PerCorner Int
  levelSet : Corners
  driveSet : Corners
  pauseSet : Corners
  mode : Mode
  kneel : KneelState
  vspd : Rec
  levelDrive : Bool
  params : LevelParams
  deriving DecidableEq, Repr

/-- The frame record of R92. -/
structure FrameRecord where
  num : BitVec 16
  speed : SpeedClass
  actMask : Corners
  deadband : Int
  limit : Int
  error : PerCorner Int
  demand : PerCorner Int
  pauseSet : Corners
  levelDrive : Bool
  fill : PerCorner Pulse
  vent : PerCorner Pulse
  deriving DecidableEq, Repr

structure Levelling where
  heightMode : HeightMode
  target : PerCorner Int
  /-- mask entry 1 -/
  kneelSet : Corners
  /-- mask entry 2 -/
  levelSet : Corners
  /-- mask entry 3 -/
  raiseSet : Corners
  /-- mask entry 4 -/
  driveSet : Corners
  record : FrameRecord
  work : Option LevelInputs
  deriving DecidableEq, Repr

/-! ### Kneel Sequencer -/

structure Kneeling where
  state : KneelState
  kind : KneelKind
  lowering : Option Nat
  raising : Option Nat
  freeze : Bool
  pauseSet : Corners
  kneelTimeouts : Corners
  raiseTimeouts : Corners
  behind : Corners
  deriving DecidableEq, Repr

/-! ### Brake Demand Unit -/

/-- The three demand records of one source (R125). -/
structure Demand where
  pressure : PerAxle Nat
  left : Nat
  deriving DecidableEq, Repr

/-- The abandonment cause set of an axle (R137). -/
structure AbandonCause where
  brpLost : Bool
  inlet : Bool
  exhaust : Bool
  deriving DecidableEq, Repr

/-- Error and widths of one axle in the last modulator computation (R134). -/
structure Modulation where
  error : Int
  inlet : Int
  exhaust : Int
  deriving DecidableEq, Repr

/-- What a modulator computation takes at its start (R133). -/
structure BrakeInputs where
  setpoint : PerAxle Int
  brp : PerAxle Rec
  abandoned : PerAxle Bool
  mode : Mode
  params : BrakeParams
  deriving DecidableEq, Repr

structure Brake where
  service : Demand
  intervention : Demand
  ratio : PerAxle Int
  cause : PerAxle AbandonCause
  deviation : PerAxle (Option Nat)
  deviating : PerAxle Bool
  compNum : BitVec 16
  last : PerAxle Modulation
  work : Option BrakeInputs
  deriving DecidableEq, Repr

/-! ### Steer and Joint Unit -/

inductive SteerState where
  | free | centring | locked | faulted
  deriving DecidableEq, Repr

/-- The joint damping demand, its four components and the JOINT value last staged (R157). -/
structure Damping where
  demand : Int
  base : Int
  rate : Int
  retarder : Int
  angle : Int
  joint : Int
  deriving DecidableEq, Repr

/-- What a joint computation takes at its start (R157). -/
structure JointInputs where
  art : Rec
  artRate : Rec
  retarder : Bool
  params : SteerParams
  deriving DecidableEq, Repr

structure Steer where
  state : SteerState
  /-- the commanded angle c -/
  angle : Int
  /-- the tracking target of the last update -/
  target : Int
  /-- the gain g of the last update -/
  gain : Int
  centring : Option Nat
  settle : Option Nat
  tracking : Option Nat
  damping : Damping
  centringTimeout : Bool
  trackingError : Bool
  steerNum : BitVec 16
  jointNum : BitVec 16
  err : Int
  duty : Int
  work : Option JointInputs
  deriving DecidableEq, Repr

/-! ### Pulse Frame Unit -/

inductive ChanState where
  | idle | armed | tripped | rearmPending
  deriving DecidableEq, Repr

inductive TripCause where
  | vsupLow | driverDiag | frameStarved | sourceIndex | safe
  deriving DecidableEq, Repr

/-- A channel record without its values (R163). -/
structure ChanRec where
  state : ChanState
  cause : Option TripCause
  trips : Nat
  driving : Bool
  overCurrent : Bool
  openLoad : Bool
  deriving DecidableEq, Repr

/-- One value for each channel, in the form of its kind (R163): DUTY for the axle valves and the joint, DELAYED for
the corner valves, a signed duty for the bridge. -/
structure Values where
  inlet : PerAxle Int
  exhaust : PerAxle Int
  joint : Int
  fill : PerCorner Pulse
  vent : PerCorner Pulse
  bridge : Int
  deriving DecidableEq, Repr

/-- A group record (R163). -/
structure GroupRec where
  commit : Bool
  starve : Option Nat
  starved : Bool
  boundary : BitVec 16
  deriving DecidableEq, Repr

structure PulseUnit where
  chan : PerChan ChanRec
  staged : Values
  active : Values
  /-- the pulse-owed flags of the LVL channels, which R166 sets and clears together -/
  owed : Bool
  group : PerGroup GroupRec
  deriving DecidableEq, Repr

/-! ### Controller Ports -/

/-- The result codes of R184. -/
inductive Result where
  | done | clamped | refusedAuthority | refusedMode | refusedInterlock | refusedRange | frameError | unknownCommand
  deriving DecidableEq, Repr

/-- A reply (R182). -/
structure Reply where
  status : List Byte
  echo : Byte
  result : Result
  payload : List Byte
  deriving DecidableEq, Repr

structure Port where
  reply : Option Reply
  shift : Option (List Byte)
  attn : BitVec 8
  silence : Option Nat
  silent : Bool
  deriving DecidableEq, Repr

structure Ports where
  port : PerPort Port
  retarder : Bool
  engaged : Bool
  driveLeft : Option Nat
  deriving DecidableEq, Repr

/-! ### Profile and Fault Store -/

/-- R200, with its code as position. -/
inductive FaultKind where
  | sensorLost | sensorDisagree | portSilent | holdNotReached | holdCreep | doorForced | doorOpenMoving
  | doorProofTimeout | kneelTimeout | raiseTimeout | steerCentringTimeout | steerTrackingError | brakeDeviation
  | channelTrip | frameStarved | profileIntegrity
  deriving DecidableEq, Repr

/-- An entry of the fault list (R200). -/
structure FaultEntry where
  kind : FaultKind
  source : Nat
  first : Nat
  count : Nat
  active : Bool
  deriving DecidableEq, Repr

inductive ResetCause where
  | power | line
  deriving DecidableEq, Repr

/-- The profile's bytes: addresses strictly rising, no byte equal to 0, what an unlisted address reads as (R203). -/
abbrev Memory := List Host.Cell

structure Store where
  mode : Mode
  startUp : Option Nat
  profile : Memory
  confirmF : Bool
  confirmB : Bool
  recorded : BitVec 16
  recordedSections : List (BitVec 16)
  integrity : Option Nat
  faults : List FaultEntry
  overflow : Bool
  timeMs : Nat
  cause : ResetCause
  deriving DecidableEq, Repr

/-- The RST_N line (R193, R203): it is low; the supply came up since the last reset; and the ports whose present
transaction met a reset, so that no frame of it is decoded (R193; log entry 53). -/
structure ResetLine where
  low : Bool
  supplyUp : Bool
  cut : PerPort Bool
  deriving DecidableEq, Repr

/-! ### The whole -/

/-- The state of the device and the queue of the commands that wait. -/
structure State where
  sa : Acquisition
  ciu : Interlock
  shc : Hold
  dcu : PerDoor DoorRec
  lvu : Levelling
  kns : Kneeling
  bdu : Brake
  sju : Steer
  pfu : PulseUnit
  cp : Ports
  pfs : Store
  prm : Params
  loaded : Bool
  rst : ResetLine
  pending : List Instr
  deriving DecidableEq, Repr

/-! ### Reset -/

/-- R24. -/
def Acquisition.reset : Acquisition where
  image :=
    { hgt := .fill .reset, prs := .fill .reset, brp := .fill .reset, art := .reset, rst := .reset, wsp := .fill .reset,
      vspd := .reset, load := .fill .reset, twist := .reset, artRate := .reset, vsup := .reset }
  hgtWin := .fill []
  prsWin := .fill []
  artDisagree := false
  rstDisagree := false
  artHist := []
  portSpeed := 0
  portSpeedLeft := none
  pulses := .fill ⟨none, none⟩
  usTime := 0
  sampled := 0#28

def Perms.none : Perms := ⟨.fill false, false, false, false, false, false⟩

/-- R46. -/
def Interlock.reset : Interlock := ⟨0#16, .none, .none, 0#16, none, false, 0#16⟩

/-- R66. -/
def Hold.reset : Hold := ⟨.released, false, .fill 0, false, none, none, .fill false, .fill false⟩

/-- R84. -/
def DoorRec.reset : DoorRec := ⟨.unsettled, .undetermined, false, none, none, false, false, false, 0, false, 0⟩

/-- R105. -/
def FrameRecord.reset : FrameRecord :=
  ⟨0#16, .motion, 0#6, 0, 0, .fill 0, .fill 0, 0#6, false, .fill ⟨0, 0⟩, .fill ⟨0, 0⟩⟩

/-- R105. -/
def Levelling.reset : Levelling := ⟨.normal, .fill 0, 0#6, 0x3F#6, 0x3F#6, 0x3F#6, .reset, none⟩

/-- R123. -/
def Kneeling.reset : Kneeling := ⟨.ride, .front, none, none, false, 0#6, 0#6, 0#6, 0#6⟩

/-- R142. -/
def Brake.reset : Brake where
  service := ⟨.fill 0, 0⟩
  intervention := ⟨.fill 0, 0⟩
  ratio := .fill 1024
  cause := .fill ⟨false, false, false⟩
  deviation := .fill none
  deviating := .fill false
  compNum := 0#16
  last := .fill ⟨0, 0, 0⟩
  work := none

/-- R161. -/
def Steer.reset : Steer where
  state := .centring
  angle := 0
  target := 0
  gain := 0
  centring := some Config.centringTime
  settle := none
  tracking := none
  damping := ⟨1000, 0, 0, 0, 0, 0⟩
  centringTimeout := false
  trackingError := false
  steerNum := 0#16
  jointNum := 0#16
  err := 0
  duty := 0
  work := none

def Values.zero : Values := ⟨.fill 0, .fill 0, 0, .fill ⟨0, 0⟩, .fill ⟨0, 0⟩, 0⟩

/-- R179. -/
def PulseUnit.reset : PulseUnit where
  chan := .ofFn fun _ => ⟨.idle, none, 0, false, false, false⟩
  staged := .zero
  active := .zero
  owed := false
  group := .ofFn fun g => ⟨false, some (Config.starveWindow g), false, 0#16⟩

/-- R193, and R46 for the drive indications. -/
def Ports.reset : Ports := ⟨.fill ⟨none, none, 0#8, some Config.defaultSilence, false⟩, false, false, none⟩

/-- R203. -/
def Store.reset (cause : ResetCause) : Store where
  mode := .start
  startUp := some Config.startUpTime
  profile := []
  confirmF := false
  confirmB := false
  recorded := 0#16
  recordedSections := List.replicate 11 0#16
  integrity := none
  faults := []
  overflow := false
  timeMs := 0
  cause := cause

/-- Every block in its reset state, with the last-reset cause, the state of the RST_N line and a queue. -/
def State.resetWith (cause : ResetCause) (rst : ResetLine) (pending : List Instr) : State where
  sa := .reset
  ciu := .reset
  shc := .reset
  dcu := .fill .reset
  lvu := .reset
  kns := .reset
  bdu := .reset
  sju := .reset
  pfu := .reset
  cp := .reset
  pfs := .reset cause
  prm := .unloaded
  loaded := false
  rst := rst
  pending := pending

/-- The device right after power-on (R203), with an empty queue. Log entry 3. -/
def State.reset : State := State.resetWith .power ⟨false, false, .fill false⟩ []

end Sys2Proof.Machine
end

