-- ==== Sys2Proof/Machine/Operands.lean ====
section
/-! DEFINITION. Arithmetic as the spec writes it (00 section 4.2), and the forms in which numbers and sets stand in
frames, replies and the profile (R180, R185, R187, R195). -/

namespace Sys2Proof.Machine

/-! ### Arithmetic -/

/-- "Clamp to a..b" (00 section 4.2). -/
def clamp (lo hi x : Int) : Int := max lo (min hi x)

/-- Division that rounds toward zero (00 section 4.2). -/
def divZero (x y : Int) : Int := Int.tdiv x y

/-- Division "rounded down", toward minus infinity (00 section 4.2). -/
def divDown (x y : Int) : Int := Int.fdiv x y

def magnitude (x : Int) : Int := (x.natAbs : Int)

/-- The sum of a list of samples. -/
def total (xs : List Int) : Int := xs.foldr (· + ·) 0

/-- A count that saturates. -/
def bump (limit n : Nat) : Nat := min limit (n + 1)

/-! ### Corner sets -/

/-- The corner is a member of the set. -/
def hasCorner (m : Corners) (i : Corner) : Bool := m.getLsbD i.num

/-- The set of the corners that a test picks. -/
def cornerSet (f : Corner → Bool) : Corners :=
  Corner.all.foldr (fun i m => if f i then m ||| (1#6 <<< i.num) else m) 0#6

/-! ### Flag fields: member k is bit k, bit 0 the least significant (R185, R187) -/

/-- The number whose bits, from bit 0 up, are the list. -/
def flags : List Bool → Nat
  | [] => 0
  | b :: bs => b.toNat + 2 * flags bs

/-- Member `k` is in a received flag field. -/
def hasFlag (field k : Nat) : Bool := field.testBit k

/-! ### Numbers as bytes, most significant byte first (R180) -/

/-- A one-byte item: a number of 0..255, a code, a yes or no, a set of at most eight members (R185). -/
def byte1 (n : Nat) : List Byte := [BitVec.ofNat 8 n]

def yesNo (b : Bool) : List Byte := byte1 b.toNat

/-- A two-byte item: a number of 0..65535, or of -32768..32767 in two's complement (R185). -/
def byte2 (x : Int) : List Byte :=
  let w := BitVec.ofInt 16 x
  [w.extractLsb' 8 8, w.extractLsb' 0 8]

def byte3 (n : Nat) : List Byte := [BitVec.ofNat 8 (n / 65536), BitVec.ofNat 8 (n / 256), BitVec.ofNat 8 n]

def byte4 (n : Nat) : List Byte := BitVec.ofNat 8 (n / 16777216) :: byte3 n

/-- The unsigned number that bytes spell, most significant first. -/
def unsignedOf (bs : List Byte) : Nat := bs.foldl (fun n b => n * 256 + b.toNat) 0

/-- Two's complement of a 16-bit number (R195). -/
def signed16 (n : Nat) : Int := (BitVec.ofNat 16 n).toInt

/-- The payload byte at a position; R187 names positions only inside the lengths that check 3 has let pass. -/
def byteAt (payload : List Byte) (k : Nat) : Nat := (payload.getD k 0#8).toNat

/-- The payload's number of `len` bytes from a position on (R187). -/
def numberAt (payload : List Byte) (k len : Nat) : Nat := unsignedOf ((payload.drop k).take len)

/-! ### Check bytes -/

/-- One bit of the CRC-8 with polynomial 0x4D (R181). -/
def crc8Bit (c : BitVec 8) : BitVec 8 := if c.msb then (c <<< 1) ^^^ 0x4D#8 else c <<< 1

def crc8Byte (c : BitVec 8) (b : Byte) : BitVec 8 :=
  crc8Bit (crc8Bit (crc8Bit (crc8Bit (crc8Bit (crc8Bit (crc8Bit (crc8Bit (c ^^^ b))))))))

/-- The check byte of R181: initial value 0, most significant bit first, no reflection, no final inversion. -/
def crc8 (bs : List Byte) : Byte := bs.foldl crc8Byte 0#8

/-- One bit of the CRC-16 with polynomial 0x1021 (R195). -/
def crc16Bit (c : BitVec 16) : BitVec 16 := if c.msb then (c <<< 1) ^^^ 0x1021#16 else c <<< 1

def crc16Byte (c : BitVec 16) (b : Byte) : BitVec 16 :=
  crc16Bit (crc16Bit (crc16Bit (crc16Bit (crc16Bit (crc16Bit (crc16Bit (crc16Bit
    (c ^^^ (b.zeroExtend 16 <<< 8)))))))))

/-- The check value of R195: initial value 0xFFFF, most significant bit first, no reflection, no final inversion. -/
def crc16 (bs : List Byte) : BitVec 16 := bs.foldl crc16Byte 0xFFFF#16

/-! ### Codes (R183, R184, R185, R200) -/

def Mode.code : Mode → Nat
  | .start => 0 | .config => 1 | .run => 2 | .safe => 3

def HoldState.code : HoldState → Nat
  | .released => 0 | .applying => 1 | .applied => 2 | .releasing => 3

def KneelState.code : KneelState → Nat
  | .ride => 0 | .lowering => 1 | .paused => 2 | .knelt => 3 | .raising => 4

def SteerState.code : SteerState → Nat
  | .free => 0 | .centring => 1 | .locked => 2 | .faulted => 3

def Phase.code : Phase → Nat
  | .shut => 0 | .released => 1 | .opened => 2 | .closing => 3 | .obstructed => 4 | .unsettled => 7

def Result.code : Result → Nat
  | .done => 0x00 | .clamped => 0x01 | .refusedAuthority => 0x10 | .refusedMode => 0x11 | .refusedInterlock => 0x12
  | .refusedRange => 0x13 | .frameError => 0x20 | .unknownCommand => 0x21

def FaultKind.code : FaultKind → Nat
  | .sensorLost => 0 | .sensorDisagree => 1 | .portSilent => 2 | .holdNotReached => 3 | .holdCreep => 4
  | .doorForced => 5 | .doorOpenMoving => 6 | .doorProofTimeout => 7 | .kneelTimeout => 8 | .raiseTimeout => 9
  | .steerCentringTimeout => 10 | .steerTrackingError => 11 | .brakeDeviation => 12 | .channelTrip => 13
  | .frameStarved => 14 | .profileIntegrity => 15

/-- Positions in the lists of the defining rules (R185): R1, R67, R94, R106, R163, R203. -/
def Validity.code : Validity → Nat
  | .fresh => 0 | .held => 1 | .substituted => 2 | .lost => 3

def Origin.code : Origin → Nat
  | .primary => 0 | .partner => 1 | .port => 2

def Contact.code : Contact → Nat
  | .made => 0 | .broken => 1 | .undetermined => 2

def HeightMode.code : HeightMode → Nat
  | .normal => 0 | .raised => 1

def SpeedClass.code : SpeedClass → Nat
  | .stand => 0 | .motion => 1

def KneelKind.code : KneelKind → Nat
  | .front => 0 | .full => 1

def ChanState.code : ChanState → Nat
  | .idle => 0 | .armed => 1 | .tripped => 2 | .rearmPending => 3

def TripCause.code : TripCause → Nat
  | .vsupLow => 0 | .driverDiag => 1 | .frameStarved => 2 | .sourceIndex => 3 | .safe => 4

def ResetCause.code : ResetCause → Nat
  | .power => 0 | .line => 1

end Sys2Proof.Machine
end

