-- ==== Sys2Proof/Machine/Ops.lean ====
section
/-! DEFINITION. The named operations that every block uses: replacing a block of the state, the profile's bytes,
timers, the fault list (R200, R201) and the attention sets (R191). -/

namespace Sys2Proof.Machine

/-! ### Replacing one block -/

def State.withSa (s : State) (x : Acquisition) : State := { s with sa := x }
def State.withCiu (s : State) (x : Interlock) : State := { s with ciu := x }
def State.withShc (s : State) (x : Hold) : State := { s with shc := x }
def State.withDcu (s : State) (x : PerDoor DoorRec) : State := { s with dcu := x }
def State.withLvu (s : State) (x : Levelling) : State := { s with lvu := x }
def State.withKns (s : State) (x : Kneeling) : State := { s with kns := x }
def State.withBdu (s : State) (x : Brake) : State := { s with bdu := x }
def State.withSju (s : State) (x : Steer) : State := { s with sju := x }
def State.withPfu (s : State) (x : PulseUnit) : State := { s with pfu := x }
def State.withCp (s : State) (x : Ports) : State := { s with cp := x }
def State.withPfs (s : State) (x : Store) : State := { s with pfs := x }
def State.withPrm (s : State) (x : Params) : State := { s with prm := x }
def State.withLoaded (s : State) (x : Bool) : State := { s with loaded := x }
def State.withRst (s : State) (x : ResetLine) : State := { s with rst := x }
def State.withPending (s : State) (x : List Instr) : State := { s with pending := x }

/-! ### The profile's bytes -/

/-- The byte at an address; what is not listed reads 0, its content after reset (R203). -/
def Memory.read : Memory → Nat → Byte
  | [], _ => 0#8
  | (b, v) :: m, a => if a = b then v else if a < b then 0#8 else Memory.read m a

/-- A write keeps the canonical form: rising addresses, and no byte that equals what an unlisted address reads. -/
def Memory.write : Memory → Nat → Byte → Memory
  | [], a, v => if v = 0#8 then [] else [(a, v)]
  | (b, w) :: m, a, v =>
    if a = b then (if v = 0#8 then m else (a, v) :: m)
    else if a < b then (if v = 0#8 then (b, w) :: m else (a, v) :: (b, w) :: m)
    else (b, w) :: Memory.write m a v

/-- A run of bytes from an address on. -/
def Memory.writeBytes (m : Memory) (a : Nat) : List Byte → Memory
  | [] => m
  | v :: vs => Memory.writeBytes (m.write a v) (a + 1) vs

def Memory.readBytes (m : Memory) (a len : Nat) : List Byte := (List.range len).map fun k => m.read (a + k)

/-- The canonical form from an address on. -/
def Memory.wfFrom : Nat → Memory → Bool
  | _, [] => true
  | lo, (a, v) :: m => decide (lo ≤ a) && decide (v ≠ 0#8) && Memory.wfFrom (a + 1) m

/-- The canonical form of the profile's bytes. -/
def Memory.wf (m : Memory) : Bool := Memory.wfFrom 0 m

/-! ### Timers -/

/-- One millisecond of a running timer; a timer with 0 left is due, and its expiry is an event of its own. -/
def tickTimer : Option Nat → Option Nat
  | none => none
  | some n => some (n - 1)

/-- The time left that a reply reports: 0 when stopped. -/
def timeLeft : Option Nat → Nat
  | none => 0
  | some n => n

/-! ### Attention (R191) -/

/-- The kinds of R191 by their flag positions. -/
inductive Attention where
  | permissionChanged | doorPhaseChanged | holdStateChanged | kneelStateChanged | steerStateChanged | trip
  | faultAdded | modeChanged
  deriving DecidableEq, Repr

def Attention.flag : Attention → Nat
  | .permissionChanged => 0 | .doorPhaseChanged => 1 | .holdStateChanged => 2 | .kneelStateChanged => 3
  | .steerStateChanged => 4 | .trip => 5 | .faultAdded => 6 | .modeChanged => 7

/-- The set with one kind in it. -/
def Attention.bit (k : Attention) : BitVec 8 := 1#8 <<< k.flag

/-- Each port whose subscription includes the kind adds it to its set. -/
def raiseAttention (k : Attention) (s : State) : State :=
  s.withCp { s.cp with
    port := .ofFn fun p =>
      let port := s.cp.port.get p
      { port with attn := port.attn ||| (k.bit &&& s.prm.ports.subscription.get p) } }

/-! ### The fault list (R200, R201) -/

def FaultEntry.is (e : FaultEntry) (kind : FaultKind) (source : Nat) : Bool :=
  decide (e.kind = kind) && decide (e.source = source)

/-- The list without its oldest LATENT entry. -/
def dropLatent : List FaultEntry → List FaultEntry
  | [] => []
  | e :: es => if e.active then e :: dropLatent es else es

/-- What a raise makes of the list: the new list, whether FAULT_ADDED is raised, and whether the fault found no place
(R201). -/
def faultsAfterRaise (now : Nat) (kind : FaultKind) (source : Nat) (es : List FaultEntry) :
    List FaultEntry × Bool × Bool :=
  let fresh : FaultEntry := ⟨kind, source, now, 1, true⟩
  if es.any (·.is kind source) then
    (es.map fun e => if e.is kind source then { e with count := bump 255 e.count, active := true } else e,
      es.any fun e => e.is kind source && !e.active, false)
  else if es.length < Config.faultListSize then (es ++ [fresh], true, false)
  else if es.any fun e => !e.active then (dropLatent es ++ [fresh], true, false)
  else (es, false, true)

/-- A block raises a fault (R201). -/
def raiseFault (kind : FaultKind) (source : Nat) (s : State) : State :=
  let r := faultsAfterRaise s.pfs.timeMs kind source s.pfs.faults
  let t := s.withPfs { s.pfs with faults := r.1, overflow := s.pfs.overflow || r.2.2 }
  if r.2.1 then raiseAttention .faultAdded t else t

/-- A block reports the end of a condition: the matching entry becomes LATENT (R201). -/
def endFault (kind : FaultKind) (source : Nat) (s : State) : State :=
  s.withPfs { s.pfs with
    faults := s.pfs.faults.map fun e => if e.is kind source then { e with active := false } else e }

/-- `f` for each member of the list that passes the test, in the order of the list. -/
def forEach {α : Type} (xs : List α) (test : α → Bool) (f : α → State → State) (s : State) : State :=
  xs.foldl (fun t x => if test x then f x t else t) s

end Sys2Proof.Machine
end

