-- ==== Sys2Proof/Machine/Flags.lean ====
section
/-! DEFINITION. The views of State: every bit, set, setpoint and output that the spec defines as a function of other
state (state bits R32, condition fields R27 and R28, floors R40, inhibit causes R62, release outputs R80, ride targets
R93, mask entries R97, setpoints R130, lock causes R145, trip sources R172, status bits R183). -/

namespace Sys2Proof.Machine

/-! ### The image -/

/-- R2. -/
def Validity.usable (v : Validity) : Bool := decide (v ≠ .lost)

def Rec.usable (r : Rec) : Bool := r.validity.usable

/-- The place in the ranking of R2. -/
def Validity.rank (v : Validity) : Nat := v.code

/-- "The worse of" two validities (R2). -/
def Validity.worse (v w : Validity) : Validity := if v.rank < w.rank then w else v

/-- "The worst of" a set of validities (R2). -/
def worst (vs : List Validity) : Validity := vs.foldr Validity.worse .fresh

/-- A record by its ID 0..27 (01 section 1.1). -/
def Image.byId (im : Image) (id : Nat) : Rec :=
  (im.hgt.toList ++ im.prs.toList ++ im.brp.toList ++ [im.art, im.rst] ++ im.wsp.toList ++ [im.vspd] ++
    im.load.toList ++ [im.twist, im.artRate, im.vsup]).getD id Rec.reset

/-- "Usable and at most n" of one record at one moment (00 section 4.4). -/
def Rec.usableUpTo (r : Rec) (n : Int) : Bool := r.usable && decide (r.value ≤ n)

/-- "Usable and above n". -/
def Rec.usableAbove (r : Rec) (n : Int) : Bool := r.usable && decide (n < r.value)

def State.vspd (s : State) : Rec := s.sa.image.vspd

/-- VSUP_LOW is asserted (R21). -/
def State.vsupLow (s : State) : Bool :=
  !s.sa.image.vsup.usable || decide (s.sa.image.vsup.value < s.prm.signals.vsupLow)

/-! ### Doors -/

def State.isShut (s : State) (d : Door) : Bool := decide ((s.dcu.get d).phase = .shut)

def State.allShut (s : State) : Bool := Door.all.all s.isShut

/-- The release output (R80). -/
def State.releaseOutput (s : State) (d : Door) : Bool :=
  decide (s.pfs.mode = .run) && match (s.dcu.get d).phase with
    | .released | .opened | .closing | .obstructed => true
    | .shut | .unsettled => false

/-! ### Pull-away inhibit (R62) -/

structure InhibitCauses where
  modeNotRun : Bool
  holdNotReleased : Bool
  kneelNotRide : Bool
  doorNotShut : PerDoor Bool
  deriving DecidableEq, Repr

def State.inhibitCauses (s : State) : InhibitCauses where
  modeNotRun := decide (s.pfs.mode ≠ .run)
  holdNotReleased := decide (s.shc.state ≠ .released)
  kneelNotRide := decide (s.kns.state ≠ .ride)
  doorNotShut := .ofFn fun d => !s.isShut d

/-- The members in the order of R62. -/
def InhibitCauses.members (c : InhibitCauses) : List Bool :=
  [c.modeNotRun, c.holdNotReleased, c.kneelNotRide] ++ c.doorNotShut.toList

/-- The pull-away inhibit is asserted while its cause set is not empty (R62). -/
def State.inhibit (s : State) : Bool := s.inhibitCauses.members.any id

/-! ### Masks and ride targets -/

/-- The curb side's mask entry: 6 for LEFT, 7 for RIGHT (05 section 5.3). -/
def Side.corners : Side → Corners
  | .left => 0x15#6
  | .right => 0x2A#6

/-- A mask entry 0..11 (table of 05 section 5.3, R97). -/
def State.maskEntry (s : State) : Nat → Corners
  | 0 => 0x3F#6
  | 1 => s.lvu.kneelSet
  | 2 => s.lvu.levelSet
  | 3 => s.lvu.raiseSet
  | 4 => s.lvu.driveSet
  | 6 => Side.left.corners
  | 7 => Side.right.corners
  | 8 => 0x03#6
  | 9 => 0x0C#6
  | 10 => 0x30#6
  | 11 => 0x0F#6
  | _ => 0x00#6

/-- The ride target of a corner (R93). -/
def State.rideTarget (s : State) (i : Corner) : Int :=
  match s.lvu.heightMode with
  | .normal => 0
  | .raised => if hasCorner s.lvu.raiseSet i then s.prm.level.raiseHeight else 0

/-! ### Brake setpoints (R130) -/

/-- Step 1 of R130; an expired record's pressure is 0 (R125). -/
def State.demand (s : State) (x : Axle) : Int :=
  ((max (s.bdu.service.pressure.get x) (s.bdu.intervention.pressure.get x) : Nat) : Int)

/-- Step 2 of R130. -/
def State.scaledDemand (s : State) (x : Axle) : Int := divDown (s.demand x * s.bdu.ratio.get x) 1024

/-- The demand raised to the floor, before the limit. -/
def State.raisedDemand (s : State) (x : Axle) : Int := max (s.scaledDemand x) (s.shc.floor.get x)

/-- The setpoint (R130); 0 while the BRAKE section is not loaded. -/
def State.setpoint (s : State) (x : Axle) : Int :=
  if s.loaded then min (s.raisedDemand x) (s.prm.brake.pMax.get x) else 0

/-- The saturation flag (step 5 of R130). -/
def State.saturated (s : State) (x : Axle) : Bool :=
  s.loaded && decide (s.prm.brake.pMax.get x < s.raisedDemand x)

/-- BRAKE_ACTIVE (R132). -/
def State.brakeActive (s : State) : Bool := Axle.all.any fun x => decide (Config.brakeActiveLimit < s.setpoint x)

/-- An axle is abandoned while its cause set is not empty (R137). -/
def AbandonCause.any (c : AbandonCause) : Bool := c.brpLost || c.inlet || c.exhaust

def State.abandoned (s : State) (x : Axle) : Bool := (s.bdu.cause.get x).any

/-- The backup valve output is energized (R138). -/
def State.backupEnergized (s : State) (x : Axle) : Bool := decide (s.pfs.mode = .run) && !s.abandoned x

/-- An axle with a hold floor (R47). -/
def State.holdAxle (s : State) (x : Axle) : Bool := decide (0 < s.prm.hold.floor.get x)

/-! ### Steer -/

/-- The lock causes in the order of R145. -/
structure LockCauses where
  speed : Bool
  holdNotReleased : Bool
  kneelNotRide : Bool
  permissionClear : Bool
  artNotUsable : Bool
  rstNotUsable : Bool
  modeNotRun : Bool
  deriving DecidableEq, Repr

/-- R145. -/
def State.lockCauses (s : State) : LockCauses where
  speed := !s.vspd.usableUpTo s.prm.steer.lockSpeed
  holdNotReleased := decide (s.shc.state ≠ .released)
  kneelNotRide := decide (s.kns.state ≠ .ride)
  permissionClear := !s.ciu.perms.steerFree
  artNotUsable := !s.sa.image.art.usable
  rstNotUsable := !s.sa.image.rst.usable
  modeNotRun := decide (s.pfs.mode ≠ .run)

def LockCauses.members (c : LockCauses) : List Bool :=
  [c.speed, c.holdNotReleased, c.kneelNotRide, c.permissionClear, c.artNotUsable, c.rstNotUsable, c.modeNotRun]

/-- The lock cause set is not empty. -/
def State.lockCaused (s : State) : Bool := s.lockCauses.members.any id

/-- Lock pin and centring valve outputs are energized: FREE, and CENTRING in RUN (R152). -/
def State.steerEnergized (s : State) : Bool :=
  match s.sju.state with
  | .free | .centring => decide (s.pfs.mode = .run)
  | .locked | .faulted => false

/-! ### State bits (R32) -/

/-- At least one channel of the group is TRIPPED or REARM_PENDING (R32, R177). -/
def State.groupTripped (s : State) (g : FrameGroup) : Bool :=
  g.channels.any fun k => match (s.pfu.chan.get k).state with
    | .tripped | .rearmPending => true
    | .idle | .armed => false

/-- FAULT_PRESENT (R201). -/
def State.faultPresent (s : State) : Bool := s.pfs.faults.any (·.active)

/-- The 24 state bits in index order (R32). -/
def State.stateBits (s : State) : List Bool :=
  [ decide (s.pfs.mode = .run),
    decide (s.shc.state = .released), decide (s.shc.state = .applied),
    decide (s.kns.state = .ride), decide (s.kns.state = .knelt),
    decide (s.sju.state = .locked), decide (s.sju.state = .free),
    s.isShut .d1, s.isShut .d2, s.isShut .d3, s.isShut .d4, s.allShut,
    s.cp.retarder, s.cp.engaged,
    s.cp.port.f.silent, s.cp.port.r.silent, s.cp.port.b.silent,
    decide (s.lvu.heightMode = .raised),
    s.brakeActive, s.faultPresent,
    s.groupTripped .brk, s.groupTripped .lvl, s.groupTripped .str,
    s.vspd.usable ]

/-! ### Condition fields (R27, R28) -/

/-- The four condition bits of a slot. -/
structure Cond where
  low : Bool
  mtch : Bool
  high : Bool
  doubt : Bool
  deriving DecidableEq, Repr

def Cond.bits (c : Cond) : List Bool := [c.low, c.mtch, c.high, c.doubt]

/-- DOUBT alone: the field of a slot that is not loaded (R26). -/
def Cond.notLoaded : Cond := ⟨false, false, false, true⟩

/-- LOW, MATCH and HIGH by R27, DOUBT by R28. -/
def Cond.of (p : SlotParams) (r : Rec) (latch : Bool) : Cond where
  low := r.usable && decide (r.value < p.threshold - p.halfWidth)
  mtch := r.usable && decide (p.threshold - p.halfWidth ≤ r.value) && decide (r.value ≤ p.threshold + p.halfWidth)
  high := r.usable && decide (p.threshold + p.halfWidth < r.value)
  doubt := decide (r.validity ≠ .fresh) || latch

/-- The parameters of slot `k`; none before the first RUN entry (R26). -/
def State.slot? (s : State) (k : Nat) : Option SlotParams := s.prm.slots[k]?

/-- The condition field of slot `k` as currently computed. -/
def State.cond (s : State) (k : Nat) : Cond :=
  match s.slot? k with
  | none => .notLoaded
  | some p => match p.signal with
    | none => ⟨false, false, false, false⟩
    | some id => .of p (s.sa.image.byId id) (s.ciu.latches.getLsbD k)

def State.conds (s : State) : List Cond := (List.range 16).map s.cond

/-! ### Permissions -/

def Perms.members (p : Perms) : List Bool :=
  p.door.toList ++ [p.kneel, p.holdRelease, p.steerFree, p.levelDrive, p.heightRaised]

def Perms.and (p q : Perms) : Perms where
  door := .ofFn fun d => p.door.get d && q.door.get d
  kneel := p.kneel && q.kneel
  holdRelease := p.holdRelease && q.holdRelease
  steerFree := p.steerFree && q.steerFree
  levelDrive := p.levelDrive && q.levelDrive
  heightRaised := p.heightRaised && q.heightRaised

/-- The hardware floors on the live states (R40). -/
def State.floors (s : State) : Perms where
  door := .fill (decide (s.shc.state = .applied) && s.vspd.usableUpTo Config.doorSpeed)
  kneel := decide (s.shc.state = .applied) && decide (s.sju.state = .locked)
  holdRelease := s.allShut && decide (s.kns.state = .ride)
  steerFree := decide (s.kns.state = .ride) && decide (s.shc.state = .released)
  levelDrive := true
  heightRaised := s.vspd.usableUpTo Config.raisedSpeed

/-! ### The source index space (R31) -/

/-- The 64 condition bits and 24 state bits, sources 0..87. -/
def State.inputs (s : State) : List Bool := (s.conds.map Cond.bits).flatten ++ s.stateBits

/-- The bit that a source index 0..112 names, as a block other than the CIU reads it (R31). -/
def State.source (s : State) (i : Nat) : Bool :=
  if i < 64 then (s.cond (i / 4)).bits.getD (i % 4) false
  else if i < 88 then s.stateBits.getD (i - 64) false
  else if i < 104 then s.ciu.scratch.getLsbD (i - 88)
  else s.ciu.perms.members.getD (i - 104) false

/-! ### Trip sources (R172) -/

/-- DRIVER_DIAG of a channel. -/
def ChanRec.diag (c : ChanRec) : Bool := c.overCurrent || c.openLoad

def State.selects (s : State) (k : Chan) : TripSel := s.prm.frames.sel.get k

/-- The sources that a channel's trip selection names, in the order of R164. -/
def TripSel.members (t : TripSel) : List Bool := [t.vsup, t.diag, t.starved, t.index.isSome]

/-- The selected sources of a channel that are asserted, in the order of R164. -/
def State.assertedMembers (s : State) (k : Chan) : List Bool :=
  let t := s.selects k
  [ t.vsup && s.vsupLow,
    t.diag && (s.pfu.chan.get k).diag,
    t.starved && (s.pfu.group.get k.group).starved,
    match t.index with
    | none => false
    | some i => s.source i ]

/-- The first asserted selected source in the order of R164 (R173). -/
def State.tripSource (s : State) (k : Chan) : Option TripCause :=
  match s.assertedMembers k with
  | [vsup, diag, starved, index] =>
    if vsup then some .vsupLow else if diag then some .driverDiag else if starved then some .frameStarved
    else if index then some .sourceIndex else none
  | _ => none

/-! ### Reply summary -/

/-- The attention line of a port (R191). -/
def Port.line (p : Port) : Bool := decide (p.attn ≠ 0#8)

/-- The STATUS summary on a port (R183). -/
def State.status (s : State) (p : PortId) : List Byte :=
  byte1 (s.pfs.mode.code * 64 + s.shc.state.code * 16 + s.kns.state.code * 2 + s.inhibit.toNat) ++
  byte1 (s.sju.state.code * 64 + s.dcu.d1.phase.code * 8 + s.dcu.d2.phase.code) ++
  byte1 (s.dcu.d3.phase.code * 32 + s.dcu.d4.phase.code * 4 + s.faultPresent.toNat * 2 +
    (s.cp.port.get p).line.toNat)

end Sys2Proof.Machine
end

