-- ==== Sys2Proof/Machine/Hold.lean ====
section
/-! DEFINITION. The Stop Hold Controller (spec/03_stop_hold_and_pull_away_inhibit.md). -/

namespace Sys2Proof.Machine

/-- A change of the hold state raises HOLD_STATE_CHANGED (R65). -/
def setHold (h : HoldState) (s : State) : State :=
  if s.shc.state = h then s else raiseAttention .holdStateChanged (s.withShc { s.shc with state := h })

/-- The full effective floor of an axle: holdFloor_x, or p_max_x while the creep raise is in force; 0 for an axle that
is not a hold axle (R47). -/
def State.fullFloor (s : State) (x : Axle) : Int :=
  if s.holdAxle x then (if s.shc.creep then s.prm.brake.pMax.get x else s.prm.hold.floor.get x) else 0

def State.fullFloors (s : State) : PerAxle Int := .ofFn s.fullFloor

/-- Entry to APPLYING (R52). -/
def enterApplying (s : State) : State :=
  setHold .applying (s.withShc { s.shc with
    floor := s.fullFloors, pendingApply := false, notReached := .fill false, lastFailed := .fill false,
    applying := some Config.applyingTime })

/-- VSPD allows the hold to start (R49, R50). -/
def State.entryAllowed (s : State) : Bool := s.vspd.usableUpTo s.prm.hold.entrySpeed

/-- An auto-apply request (R50). -/
def autoApply (s : State) : State :=
  match s.shc.state with
  | .released => if s.entryAllowed then enterApplying s else s.withShc { s.shc with pendingApply := true }
  | .releasing => enterApplying s
  | .applying | .applied => s

/-- The end of the HOLD_NOT_REACHED conditions in force (R54). -/
def endNotReached (s : State) : State :=
  let t := forEach Axle.all (fun x => s.shc.notReached.get x) (fun x => endFault .holdNotReached x.num) s
  t.withShc { t.shc with notReached := .fill false }

/-- The creep raise ends; the floors are the caller's concern (R61). -/
def endCreep (s : State) : State :=
  if s.shc.creep then endFault .holdCreep 21 (s.withShc { s.shc with creep := false, quiet := none })
  else s.withShc { s.shc with quiet := none }

/-- Entry to RELEASING (R56). -/
def enterReleasing (s : State) : State :=
  let t := endCreep (endNotReached s)
  setHold .releasing (t.withShc { t.shc with applying := none })

/-- A hold axle is reached (R53). -/
def State.reached (s : State) (x : Axle) : Bool :=
  (s.sa.image.brp.get x).usable &&
    decide (s.prm.hold.floor.get x - s.prm.hold.tol ≤ (s.sa.image.brp.get x).value) && !s.abandoned x

/-- The reached test at a BRK boundary in APPLYING (R53). -/
def reachedTest (s : State) : State :=
  let failed : PerAxle Bool := .ofFn fun x => s.holdAxle x && !s.reached x
  let ended := fun x => s.shc.notReached.get x && !failed.get x
  let t := forEach Axle.all ended (fun x => endFault .holdNotReached x.num) s
  let u := t.withShc { t.shc with
    lastFailed := failed, notReached := .ofFn fun x => s.shc.notReached.get x && failed.get x }
  if Axle.all.any failed.get then u else setHold .applied (u.withShc { u.shc with applying := none })

/-- The ramp step at a BRK boundary in RELEASING (R58). -/
def rampStep (s : State) : State :=
  let floor : PerAxle Int := .ofFn fun x =>
    if s.holdAxle x then max 0 (s.shc.floor.get x - s.prm.hold.ramp) else s.shc.floor.get x
  let t := s.withShc { s.shc with floor := floor }
  if Axle.all.all fun x => decide (floor.get x = 0) then setHold .released t else t

/-- What the Stop Hold Controller does at a BRK boundary. -/
def holdBoundary (s : State) : State :=
  match s.shc.state with
  | .applying => reachedTest s
  | .releasing => rampStep s
  | .released | .applied => s

/-- A creep raise in force at a VSPD update (second part of R60). A quiet timer that runs already, the one started at the
raise too, runs on and is not started again (log entry 47). -/
def creepUpdate (s : State) : State :=
  if s.vspd.usableUpTo Config.creepSpeed then
    (match s.shc.quiet with
      | none => s.withShc { s.shc with quiet := some Config.quietTime }
      | some _ => s)
  else s.withShc { s.shc with quiet := none }

/-- The start of a creep raise (first part of R60): the quiet timer starts here, while VSPD is above 50 (log entry 47). -/
def startCreep (s : State) : State :=
  let t := raiseFault .holdCreep 21
    (s.withShc { s.shc with creep := true, quiet := some Config.quietTime })
  t.withShc { t.shc with floor := t.fullFloors }

/-- What the Stop Hold Controller does at a VSPD update (R51, R60). -/
def holdSpeedUpdate (s : State) : State :=
  if s.shc.pendingApply ∧ s.shc.state = .released ∧ s.entryAllowed then enterApplying s
  else if s.shc.creep then creepUpdate s
  else if s.shc.state = .applied ∧ s.vspd.usableAbove Config.creepSpeed then startCreep s
  else s

/-- The applying timer's expiry (R54). -/
def applyingExpiry (s : State) : State :=
  match s.shc.applying with
  | none => s
  | some _ =>
    let behind := fun x => s.holdAxle x && s.shc.lastFailed.get x
    let t := s.withShc { s.shc with
      applying := none, notReached := .ofFn fun x => s.shc.notReached.get x || behind x }
    forEach Axle.all behind (fun x => raiseFault .holdNotReached x.num) t

/-- The quiet timer's expiry (R61). -/
def quietExpiry (s : State) : State :=
  match s.shc.quiet with
  | none => s
  | some _ =>
    let t := endCreep s
    t.withShc { t.shc with floor := t.fullFloors }

/-- SAFE entry (R64). -/
def holdSafeEntry (s : State) : State :=
  let t := endCreep (endNotReached s)
  setHold .released (t.withShc { t.shc with floor := .fill 0, pendingApply := false, applying := none })

end Sys2Proof.Machine
end

