-- ==== Sys2Proof/Machine/Pulse.lean ====
section
/-! DEFINITION. The Pulse Frame Unit (spec/09_pulse_frames_and_output_trips.md): staging and commit, the drive inside a
frame, trips, re-arming, and what it does at a boundary, at RUN entry and at SAFE entry. -/

namespace Sys2Proof.Machine

/-! ### Staging and commit (R168, R170) -/

/-- A commit request: sets the pending flag, restarts the starvation timer and ends FRAME_STARVED. -/
def commitRequest (g : FrameGroup) (s : State) : State :=
  let r := s.pfu.group.get g
  let t := s.withPfu { s.pfu with
    group := s.pfu.group.set g { r with commit := true, starve := some (Config.starveWindow g), starved := false } }
  if r.starved then endFault .frameStarved g.num t else t

/-- A staged duty above 1000 is stored as 1000 (R165). -/
def dutyValue (x : Int) : Int := min 1000 x

/-- The BDU stages an axle's two channels together (R134). -/
def stageAxle (x : Axle) (inlet exhaust : Int) (s : State) : State :=
  s.withPfu { s.pfu with staged := { s.pfu.staged with
    inlet := s.pfu.staged.inlet.set x (dutyValue inlet),
    exhaust := s.pfu.staged.exhaust.set x (dutyValue exhaust) } }

/-- The SJU stages the JOINT channel (R157). -/
def stageJoint (v : Int) (s : State) : State :=
  s.withPfu { s.pfu with staged := { s.pfu.staged with joint := dutyValue v } }

/-- The LVU stages its twelve channels (R91). -/
def stageCorners (fill vent : PerCorner Pulse) (s : State) : State :=
  s.withPfu { s.pfu with staged := { s.pfu.staged with fill := fill, vent := vent } }

/-- The SJU stages the bridge duty (R155). -/
def stageBridge (d : Int) (s : State) : State :=
  s.withPfu { s.pfu with staged := { s.pfu.staged with bridge := d } }

/-! ### Drive inside a frame (R165, R166, R167): log entry 38 -/

/-- The magnitude m of R167. -/
def State.bridgeMagnitude (s : State) : Int :=
  clamp 0 (1000 - 2 * (s.prm.frames.deadTime : Int)) (magnitude s.pfu.active.bridge)

/-- The first tick b of the conduction window (R167). -/
def State.bridgeStart (s : State) : Int := divDown (1000 - s.bridgeMagnitude) 2

/-- A DUTY channel's output at tick `t` (R165). -/
def dutyAt (duty : Int) (t : Nat) : Bool := decide ((t : Int) < duty)

/-- A DELAYED channel's output at tick `t` of a frame in which it owes a pulse (R166). -/
def pulseAt (p : Pulse) (t : Nat) : Bool :=
  decide (p.delay ≤ (t : Int)) && decide ((t : Int) < min 1000 (p.delay + p.width))

/-- The output of a channel at tick `t` (0..999) of the present frame: 0 at its safe level, 1 energized (leg P for the
bridge), -1 for the bridge's leg N. An ARMED channel drives its active value (R165), also that of an axle that a lost BRP
abandons after its widths were staged; where R137 speaks of no pulse the model follows R165 until the commit with the
zeros is taken (log entry 58). -/
def State.driveAt (s : State) (k : Chan) (t : Nat) : Int :=
  if (s.pfu.chan.get k).driving then
    match k with
    | .inlet x => (dutyAt (s.pfu.active.inlet.get x) t).toInt
    | .exhaust x => (dutyAt (s.pfu.active.exhaust.get x) t).toInt
    | .joint => (dutyAt s.pfu.active.joint t).toInt
    | .fill i => (s.pfu.owed && pulseAt (s.pfu.active.fill.get i) t).toInt
    | .vent i => (s.pfu.owed && pulseAt (s.pfu.active.vent.get i) t).toInt
    | .bridge =>
      if s.bridgeStart ≤ (t : Int) ∧ (t : Int) < s.bridgeStart + s.bridgeMagnitude then
        (if 0 < s.pfu.active.bridge then 1 else -1)
      else 0
  else 0

/-- The output is energized at some tick of the present frame. -/
def State.drives (s : State) (k : Chan) : Bool :=
  (s.pfu.chan.get k).driving &&
    match k with
    | .inlet x => decide (0 < s.pfu.active.inlet.get x)
    | .exhaust x => decide (0 < s.pfu.active.exhaust.get x)
    | .joint => decide (0 < s.pfu.active.joint)
    | .fill i => s.pfu.owed && decide (0 < (s.pfu.active.fill.get i).width)
    | .vent i => s.pfu.owed && decide (0 < (s.pfu.active.vent.get i).width)
    | .bridge => decide (0 < s.bridgeMagnitude)

/-! ### Channel states -/

def State.setChan (s : State) (k : Chan) (c : ChanRec) : State :=
  s.withPfu { s.pfu with chan := s.pfu.chan.set k c }

/-- A channel record after an entry into TRIPPED: safe level at once, so an over-current report ends (R172, R173). -/
def ChanRec.trip (c : ChanRec) (cause : TripCause) : ChanRec :=
  { c with state := .tripped, cause := some cause, trips := bump 255 c.trips, driving := false, overCurrent := false }

/-- An entry into TRIPPED with its fault and attention (R173, R175). -/
def tripChannel (cause : TripCause) (k : Chan) (s : State) : State :=
  raiseAttention .trip
    (raiseFault .channelTrip k.num (s.setChan k ((s.pfu.chan.get k).trip cause)))

/-- Every ARMED channel one of whose selected sources is asserted becomes TRIPPED (R173). The sources are read before
any of these trips. -/
def tripArmed (s : State) : State :=
  Chan.all.foldl (fun t k =>
    match (s.pfu.chan.get k).state, s.tripSource k with
    | .armed, some cause => tripChannel cause k t
    | _, _ => t) s

/-- The RUN entry decision of an IDLE channel (R171). Of several selected sources asserted at that moment the first in
the order of R164 is the cause (log entry 59). -/
def decideIdle (s : State) : State :=
  Chan.all.foldl (fun t k =>
    match (s.pfu.chan.get k).state, s.tripSource k with
    | .idle, some cause => tripChannel cause k t
    | .idle, none => t.setChan k { t.pfu.chan.get k with state := .armed }
    | _, _ => t) s

/-- The boundary decision of the group's REARM_PENDING channels (R175). Of several selected sources asserted at the
boundary, whenever they asserted, the first in the order of R164 is the cause (log entry 59). -/
def decideRearm (g : FrameGroup) (s : State) : State :=
  g.channels.foldl (fun t k =>
    match (s.pfu.chan.get k).state, s.tripSource k with
    | .rearmPending, some cause => tripChannel cause k t
    | .rearmPending, none => endFault .channelTrip k.num (t.setChan k { t.pfu.chan.get k with state := .armed })
    | _, _ => t) s

/-- SAFE entry (R176). -/
def safeTrip (s : State) : State :=
  raiseAttention .trip (s.withPfu { s.pfu with
    chan := .ofFn fun k =>
      let c := s.pfu.chan.get k
      match c.state with
      | .tripped => { c with cause := some .safe }
      | .idle | .armed | .rearmPending => c.trip .safe })

/-! ### Boundary (R169) -/

/-- Steps 1 and 2 of R169, with the pulse-owed flags of R166. -/
def takeCommit (g : FrameGroup) (s : State) : State :=
  let r := s.pfu.group.get g
  let owed := match g with
    | .lvl => r.commit
    | .brk | .str => s.pfu.owed
  let active := if r.commit then
      match g with
      | .brk => { s.pfu.active with
          inlet := s.pfu.staged.inlet, exhaust := s.pfu.staged.exhaust, joint := s.pfu.staged.joint }
      | .lvl => { s.pfu.active with fill := s.pfu.staged.fill, vent := s.pfu.staged.vent }
      | .str => { s.pfu.active with bridge := s.pfu.staged.bridge }
    else s.pfu.active
  s.withPfu { s.pfu with
    active := active, owed := owed, group := s.pfu.group.set g { r with commit := false } }

/-- Step 4 of R169. The frame that begins drives the ARMED channels of the group, and an over-current report outlives
the boundary only where the output stays energized across it (R172; log entry 24). `before` is the state before the
boundary. -/
def beginFrame (g : FrameGroup) (before s : State) : State :=
  let r := s.pfu.group.get g
  let t := s.withPfu { s.pfu with
    group := s.pfu.group.set g { r with boundary := r.boundary + 1 },
    chan := .ofFn fun k =>
      let c := s.pfu.chan.get k
      if k.group = g then { c with driving := decide (c.state = .armed) } else c }
  t.withPfu { t.pfu with
    chan := .ofFn fun k =>
      let c := t.pfu.chan.get k
      if k.group = g then
        { c with overCurrent := c.overCurrent && decide (before.driveAt k 999 ≠ 0) &&
            decide (before.driveAt k 999 = t.driveAt k 0) }
      else c }

/-- The boundary event of a group in the Pulse Frame Unit: steps 1 to 4 of R169. -/
def pulseBoundary (g : FrameGroup) (s : State) : State :=
  beginFrame g s (decideRearm g (takeCommit g s))

end Sys2Proof.Machine
end

