-- ==== Sys2Proof/Machine/Brake.lean ====
section
/-! DEFINITION. The Brake Demand Unit (spec/07_brake_demand_and_load_proportioning.md), without its port commands. The
setpoints and the backup valve outputs are views (Machine/Flags.lean). -/

namespace Sys2Proof.Machine

/-! ### Load ratios (R128, R129) -/

/-- The ratio that a LOAD record gives (R128). -/
def loadRatio (p : BrakeParams) (x : Axle) (load : Rec) : Int :=
  if load.usable then clamp (p.rMin.get x) 1024 (divDown (load.value * 1024) (p.ladenRef.get x)) else 1024

/-- R128 for one axle; nothing while the section is not loaded or the freeze is in force. -/
def updateRatio (x : Axle) (s : State) : State :=
  if s.loaded ∧ s.kns.freeze = false then
    s.withBdu { s.bdu with ratio := s.bdu.ratio.set x (loadRatio s.prm.brake x (s.sa.image.load.get x)) }
  else s

/-- R128 for all three axles (R129 at the freeze end, R141 at RUN entry). -/
def updateRatios (s : State) : State := updateRatio .c (updateRatio .b (updateRatio .a s))

/-! ### Demand records (R125 to R127) -/

/-- An expired source: pressure 0 and no time left (R125). -/
def Demand.expired : Demand := ⟨.fill 0, 0⟩

def Brake.demandOf (b : Brake) : DemandSource → Demand
  | .service => b.service
  | .intervention => b.intervention

/-- The three records of one source are written together (R125). -/
def setDemand (src : DemandSource) (d : Demand) (s : State) : State :=
  match src with
  | .service => s.withBdu { s.bdu with service := d }
  | .intervention => s.withBdu { s.bdu with intervention := d }

/-- The expiry of a live source (R127). -/
def demandExpiry (src : DemandSource) (s : State) : State :=
  if (s.bdu.demandOf src).left = 0 then s else setDemand src .expired s

/-! ### The modulator (R133, R134) -/

/-- What the computation that a BRK boundary starts takes (R133). -/
def takeBrakeInputs (s : State) : State :=
  s.withBdu { s.bdu with
    work := some
      { setpoint := .ofFn s.setpoint, brp := s.sa.image.brp, abandoned := .ofFn s.abandoned, mode := s.pfs.mode,
        params := s.prm.brake } }

/-- The width of the driven valve after the minimum pulse and the clamp (R134): any error outside dbBrake gets at least
minPulseBrake, one whose raw width rounds to 0 too (log entry 51). -/
def brakeWidth (minPulse raw : Int) : Int := clamp 0 1000 (max raw minPulse)

/-- R134 for one axle. The error is formed in every case (log entry 21). -/
def modulate (w : BrakeInputs) (x : Axle) : Modulation :=
  let e := w.setpoint.get x - (w.brp.get x).value
  if w.mode ≠ .run ∨ w.abandoned.get x = true then ⟨e, 0, 0⟩
  else if magnitude e ≤ w.params.dbBrake then ⟨e, 0, 0⟩
  else if 0 < e then ⟨e, brakeWidth w.params.minPulse (divZero (e * w.params.kin.get x) 16), 0⟩
  else ⟨e, 0, brakeWidth w.params.minPulse (divZero (magnitude e * w.params.kex.get x) 16)⟩

/-! ### Deviation (R136) -/

def setDeviation (x : Axle) (t : Option Nat) (inForce : Bool) (s : State) : State :=
  s.withBdu { s.bdu with deviation := s.bdu.deviation.set x t, deviating := s.bdu.deviating.set x inForce }

/-- The timer stops and a condition in force ends (R136). -/
def endDeviation (x : Axle) (s : State) : State :=
  let t := setDeviation x none false s
  if s.bdu.deviating.get x then endFault .brakeDeviation x.num t else t

/-- R136 for one axle, at a computation. Log entry 33. -/
def supervise (w : BrakeInputs) (x : Axle) (s : State) : State :=
  if w.mode = .run ∧ s.pfs.mode = .run ∧ w.abandoned.get x = false ∧ s.abandoned x = false then
    if Config.deviationLimit < magnitude (modulate w x).error then
      (if s.bdu.deviation.get x = none ∧ s.bdu.deviating.get x = false then
        setDeviation x (some Config.deviationTime) false s
      else s)
    else endDeviation x s
  else s

/-- The deviation timer's expiry (R136). -/
def deviationExpiry (x : Axle) (s : State) : State :=
  match s.bdu.deviation.get x with
  | none => s
  | some _ => raiseFault .brakeDeviation x.num (setDeviation x none true s)

/-- The end of the computation in progress (R133, R134, R136); nothing when none is in progress (log entry 30). -/
def modulatorEnd (s : State) : State :=
  match s.bdu.work with
  | none => s
  | some w =>
    let t := supervise w .c (supervise w .b (supervise w .a s))
    let last : PerAxle Modulation := .ofFn (modulate w)
    let u := t.withBdu { t.bdu with last := last, compNum := t.bdu.compNum + 1, work := none }
    let stage := fun (x : Axle) (v : State) => stageAxle x (last.get x).inlet (last.get x).exhaust v
    commitRequest .brk (stage .c (stage .b (stage .a u)))

/-! ### Abandonment (R137, R55) -/

/-- A channel state that gives an axle up (R137). -/
def ChanState.notArmed : ChanState → Bool
  | .tripped | .rearmPending => true
  | .idle | .armed => false

/-- The cause set as the present records and channels make it (R137). -/
def State.causesNow (s : State) (x : Axle) : AbandonCause where
  brpLost := !(s.sa.image.brp.get x).usable
  inlet := (s.pfu.chan.inlet.get x).state.notArmed
  exhaust := (s.pfu.chan.exhaust.get x).state.notArmed

/-- Something that R137 watches differs between two states: the BRP validity or the state of a channel of the axle. -/
def causesTouched (s0 s : State) (x : Axle) : Bool :=
  decide ((s0.sa.image.brp.get x).validity ≠ (s.sa.image.brp.get x).validity) ||
  decide ((s0.pfu.chan.inlet.get x).state ≠ (s.pfu.chan.inlet.get x).state) ||
  decide ((s0.pfu.chan.exhaust.get x).state ≠ (s.pfu.chan.exhaust.get x).state)

/-- The re-evaluation of one axle's cause set. On becoming abandoned its deviation supervision stops (R136), and an
APPLIED hold returns to APPLYING if the axle is a hold axle (R55). -/
def reabandon (x : Axle) (s : State) : State :=
  let t := s.withBdu { s.bdu with cause := s.bdu.cause.set x (s.causesNow x) }
  if t.abandoned x ∧ s.abandoned x = false then
    let u := endDeviation x t
    if u.shc.state = .applied ∧ u.holdAxle x then enterApplying u else u
  else t

/-- The re-evaluation in an event that began in `s0` (R137). -/
def reabandonTouched (s0 s : State) : State :=
  forEach Axle.all (causesTouched s0 s) reabandon s

/-! ### SAFE entry (R141) -/

/-- Every demand record expires; every deviation timer stops and every condition ends. -/
def brakeSafeEntry (s : State) : State :=
  let t := s.withBdu { s.bdu with service := .expired, intervention := .expired }
  endDeviation .c (endDeviation .b (endDeviation .a t))

end Sys2Proof.Machine
end

