-- ==== Sys2Proof/Machine/Doors.lean ====
section
/-! DEFINITION. The Door Channel Unit (spec/04_door_channels.md), without its port commands. -/

namespace Sys2Proof.Machine

def State.setDoor (s : State) (d : Door) (r : DoorRec) : State := s.withDcu (s.dcu.set d r)

/-- The DOOR_OPEN_MOVING condition of a door is re-examined (R82). -/
def examineMoving (d : Door) (s : State) : State :=
  let r := s.dcu.get d
  if r.phase ≠ .shut ∧ s.vspd.usableAbove Config.movingSpeed then
    (if r.moving then s else raiseFault .doorOpenMoving d.number (s.setDoor d { r with moving := true }))
  else if r.phase = .shut ∨ s.vspd.usableUpTo Config.movingSpeed then
    (if r.moving then endFault .doorOpenMoving d.number (s.setDoor d { r with moving := false }) else s)
  else s

/-- What a phase change hands on at once: attention, the return of a RELEASING hold (R59), R82. The state bits, floors,
inhibit and release output are views (R83). -/
def setPhase (d : Door) (p : Phase) (s : State) : State :=
  let r := s.dcu.get d
  if r.phase = p then s
  else
    let t := raiseAttention .doorPhaseChanged (s.setDoor d { r with phase := p })
    let u := if r.phase = .shut ∧ t.shc.state = .releasing then enterApplying t else t
    examineMoving d u

/-- The forced flag clears and its condition ends (R79). -/
def endForced (d : Door) (s : State) : State :=
  let r := s.dcu.get d
  if r.forced then endFault .doorForced d.number (s.setDoor d { r with forced := false }) else s

/-- The proof-timeout flag clears and its condition ends (R76, R77). -/
def endProofTimeout (d : Door) (s : State) : State :=
  let r := s.dcu.get d
  if r.proofTimeout then endFault .doorProofTimeout d.number (s.setDoor d { r with proofTimeout := false }) else s

/-- Both timers of a door stop. -/
def stopDoorTimers (d : Door) (s : State) : State :=
  s.setDoor d { s.dcu.get d with phaseTimer := none, proofTimer := none }

/-- Entry to SHUT from RELEASED (R73) or by proof (R76, R78). -/
def enterShut (d : Door) (s : State) : State :=
  setPhase d .shut (endForced d (endProofTimeout d (stopDoorTimers d s)))

/-- A forced opening (R79). The change of phase examines R82 first, so DOOR_OPEN_MOVING enters the fault list before
DOOR_FORCED (log entry 45). -/
def forceOpen (d : Door) (s : State) : State :=
  let r := s.dcu.get d
  let t := raiseFault .doorForced d.number (setPhase d .opened (s.setDoor d { r with forced := true }))
  if t.pfs.mode = .run then autoApply t else t

/-- A make (R75, R76, R78), of a switch that was broken. -/
def doorMake (d : Door) (s : State) : State :=
  let r := s.dcu.get d
  if r.closed = .broken then
    let proof := match r.phase with
      | .closing => some Config.proofTime
      | .opened | .obstructed => if s.pfs.mode = .run then r.proofTimer else some Config.proofTime
      | .shut | .released | .unsettled => r.proofTimer
    s.setDoor d { r with closed := .made, closedCount := 0, proofTimer := proof }
  else s

/-- A break (R73, R76, R78, R79), of a switch that was made. -/
def doorBreak (d : Door) (s : State) : State :=
  let r := s.dcu.get d
  if r.closed = .made then
    let t := s.setDoor d { r with closed := .broken, closedCount := 0 }
    match r.phase with
    | .shut => forceOpen d t
    | .released => setPhase d .opened (stopDoorTimers d t)
    | .opened | .closing | .obstructed =>
      t.setDoor d { t.dcu.get d with proofTimer := none }
    | .unsettled => t
  else s

/-- A press (R69, R77), of an edge that was released. -/
def edgePress (d : Door) (s : State) : State :=
  let r := s.dcu.get d
  if r.pressed then s
  else
    let t := s.setDoor d { r with pressed := true, edgeCount := 0 }
    match r.phase with
    | .closing => setPhase d .obstructed (endProofTimeout d (stopDoorTimers d t))
    | .shut | .released | .opened | .obstructed | .unsettled => t

/-- A release (R69, R75, R78), of an edge that was pressed. -/
def edgeRelease (d : Door) (s : State) : State :=
  let r := s.dcu.get d
  if r.pressed then
    let t := s.setDoor d { r with pressed := false, edgeCount := 0 }
    match r.phase with
    | .obstructed => setPhase d .opened t
    | .shut | .released | .opened | .closing | .unsettled => t
  else s

/-- The first determination of a closed switch (R70). -/
def doorSettle (d : Door) (made : Bool) (s : State) : State :=
  let r := s.dcu.get d
  if r.closed = .undetermined then
    setPhase d (if made then .shut else .opened)
      (s.setDoor d { r with closed := (if made then .made else .broken), closedCount := 0 })
  else s

/-- The phase timer's expiry (R73, R77). -/
def phaseExpiry (d : Door) (s : State) : State :=
  let r := s.dcu.get d
  match r.phaseTimer with
  | none => s
  | some _ =>
    match r.phase with
    | .released => enterShut d s
    | .closing =>
      raiseFault .doorProofTimeout d.number (s.setDoor d { r with phaseTimer := none, proofTimeout := true })
    | .shut | .opened | .obstructed | .unsettled => s.setDoor d { r with phaseTimer := none }

/-- The proof timer's expiry (R76, R78). -/
def proofExpiry (d : Door) (s : State) : State :=
  let r := s.dcu.get d
  match r.proofTimer with
  | none => s
  | some _ =>
    match r.phase with
    | .closing | .opened | .obstructed => enterShut d s
    | .shut | .released | .unsettled => s.setDoor d { r with proofTimer := none }

/-- One sample of a closed switch (R68): the sample that completes the count changes the debounced state, or settles
the door (log entry 16). -/
def sampleClosed (d : Door) (made : Bool) (s : State) : State :=
  let r := s.dcu.get d
  match r.closed with
  | .undetermined =>
    let n := if made = r.closedLevel then r.closedCount + 1 else 1
    if Config.closedDebounce ≤ n then doorSettle d made s
    else s.setDoor d { r with closedCount := n, closedLevel := made }
  | .made =>
    if made then s.setDoor d { r with closedCount := 0 }
    else if Config.closedDebounce ≤ r.closedCount + 1 then doorBreak d s
    else s.setDoor d { r with closedCount := r.closedCount + 1 }
  | .broken =>
    if made then
      (if Config.closedDebounce ≤ r.closedCount + 1 then doorMake d s
        else s.setDoor d { r with closedCount := r.closedCount + 1 })
    else s.setDoor d { r with closedCount := 0 }

/-- One sample of an edge switch (R69). -/
def sampleEdge (d : Door) (pressed : Bool) (s : State) : State :=
  let r := s.dcu.get d
  if pressed = r.pressed then s.setDoor d { r with edgeCount := 0 }
  else if Config.edgeDebounce ≤ r.edgeCount + 1 then (if pressed then edgePress d s else edgeRelease d s)
  else s.setDoor d { r with edgeCount := r.edgeCount + 1 }

/-- The 1 ms sample of all door switches, door by door in index order, closed switch first (log entry 16). -/
def sampleDoors (closed pressed : PerDoor Bool) (s : State) : State :=
  Door.all.foldl (fun t d => sampleEdge d (pressed.get d) (sampleClosed d (closed.get d) t)) s

/-- R82 for every door, at a VSPD update. -/
def doorSpeedUpdate (s : State) : State := Door.all.foldl (fun t d => examineMoving d t) s

/-- The mode becomes one that is not RUN: a door in OPEN or OBSTRUCTED whose switch is made starts its proof (R78;
log entry 17). -/
def doorLeaveRun (s : State) : State :=
  s.withDcu (s.dcu.map fun r =>
    match r.phase, r.closed, r.proofTimer with
    | .opened, .made, none | .obstructed, .made, none => { r with proofTimer := some Config.proofTime }
    | _, _, _ => r)

/-- RUN entry: a proof timer of a door in OPEN or OBSTRUCTED stops (R78). -/
def doorEnterRun (s : State) : State :=
  s.withDcu (s.dcu.map fun r =>
    match r.phase with
    | .opened | .obstructed => { r with proofTimer := none }
    | .shut | .released | .closing | .unsettled => r)

end Sys2Proof.Machine
end

