-- ==== Sys2Proof/Machine/Acquisition.lean ====
section
/-! DEFINITION. Signal Acquisition (spec/01_signal_acquisition_and_the_chassis_image.md), with the change of mode and the
end of START (R194, R25). -/

namespace Sys2Proof.Machine

/-! ### Mode changes (R194) -/

/-- A change of the device mode raises MODE_CHANGED; MODE_RUN and the inhibit are views. -/
def setMode (m : Mode) (s : State) : State :=
  if s.pfs.mode = m then s else raiseAttention .modeChanged (s.withPfs { s.pfs with mode := m })

/-- The IDs of the records that are LOST. -/
def lostRecords (im : Image) : List Nat := (List.range 28).filter fun id => decide ((im.byId id).validity = .lost)

/-- The end of START (R194, R25): the mode becomes CONFIG, the timer stops, closures are tracked (R78), and SENSOR_LOST
is raised for every LOST record in ID order (the order: log entry 45). -/
def endStart (s : State) : State :=
  if s.pfs.mode = .start then
    let t := setMode .config (s.withPfs { s.pfs with startUp := none })
    (lostRecords t.sa.image).foldl (fun u id => raiseFault .sensorLost id u) (doorLeaveRun t)
  else s

/-- The start-up timer's expiry (R194). -/
def startUpExpiry (s : State) : State :=
  match s.pfs.startUp with
  | none => s
  | some _ => endStart (s.withPfs { s.pfs with startUp := none })

/-! ### Samples (R4 to R8) -/

def State.withImage (s : State) (im : Image) : State := s.withSa { s.sa with image := im }

/-- The converted value of an accepted sample; none when it is rejected or missing (R5). -/
def convert (b : Band) (lo hi : Int) (raw : Reading) : Option Int :=
  match raw with
  | none => none
  | some r =>
    if b.rawLow ≤ (r : Int) ∧ (r : Int) ≤ b.rawHigh then
      some (clamp lo hi (divZero (((r : Int) - b.offset) * b.scale) 1024))
    else none

/-- A sample window after a sample, newest first (R6). -/
def pushSample (size : Nat) (win : List Int) (v : Option Int) : List Int :=
  match v with
  | none => win
  | some x => (x :: win).take size

/-- The mean of a height window, rounded toward zero (R6). -/
def heightMean (win : List Int) : Int := divZero (total win) (win.length : Int)

/-- The mean of a bellows window, rounded down (R6). -/
def bellowsMean (win : List Int) : Int := divDown (total win) (win.length : Int)

/-- What one sample makes of a sampled record: R7 for an accepted sample with the given new value, R8 otherwise. -/
def settle (window : Nat) (value : Int) (v : Option Int) (r : Rec) : Rec :=
  match v with
  | some x => { value := value, validity := .fresh, age := 0, source := .primary, last := x, hold := none }
  | none => if r.validity = .fresh then { r with validity := .held, hold := some window } else r

/-- The records that got a value report the end of SENSOR_LOST (R7). -/
def endLost (base : Nat) (got : List Bool) (s : State) : State :=
  (got.zipIdx.filter (·.1)).foldl (fun t p => endFault .sensorLost (base + p.2) t) s

/-- The records that got a value from their own sensors join the tracking of R25. -/
def markSampled (base : Nat) (got : List Bool) (s : State) : State :=
  s.withSa { s.sa with sampled := s.sa.sampled ||| (BitVec.ofNat 28 (flags got) <<< base) }

/-! ### Substitutes (R9, R10) -/

/-- FRESH or HELD: acceptable as a substitute (R9). -/
def Rec.acceptable (r : Rec) : Bool := decide (r.validity = .fresh) || decide (r.validity = .held)

/-- A record that stands in for its own sensor with its opposite corner's value. -/
def Rec.substitute (r opp : Rec) : Rec :=
  { r with value := opp.value, validity := .substituted, source := .partner, hold := none }

def Rec.lose (r : Rec) : Rec := { r with validity := .lost, hold := none }

/-- What a height or bellows record makes of its opposite corner (R10). -/
def Rec.follow (r opp : Rec) : Rec :=
  match r.validity with
  | .fresh | .held => r
  | .substituted => if opp.acceptable then r.substitute opp else r.lose
  | .lost => if opp.acceptable then r.substitute opp else r

/-- Both corners of every axle follow, each on the other's settled record. -/
def followCorners (v : PerCorner Rec) : PerCorner Rec := .ofFn fun i => (v.get i).follow (v.get i.opposite)

/-- SENSOR_LOST for a record that entered LOST. In START nothing is raised: the report that ends START covers the record
(R25; log entry 14). -/
def reportLost (id : Nat) (s : State) : State :=
  if s.pfs.mode = .start then s else raiseFault .sensorLost id s

/-- SENSOR_LOST for the records of a group that entered LOST, in ID order (log entry 45). -/
def raiseLost (base : Nat) (old new : List Rec) (s : State) : State :=
  ((old.zip new).zipIdx.filter fun p => p.1.1.usable && !p.1.2.usable).foldl
    (fun t p => reportLost (base + p.2) t) s

/-- The height followers (R10). -/
def followHeights (s : State) : State :=
  let v := s.sa.image.hgt
  let w := followCorners v
  raiseLost 0 v.toList w.toList (s.withImage { s.sa.image with hgt := w })

/-- The bellows followers (R10). -/
def followBellows (s : State) : State :=
  let v := s.sa.image.prs
  let w := followCorners v
  raiseLost 6 v.toList w.toList (s.withImage { s.sa.image with prs := w })

/-- The hold timer's expiry of a sampled record, with the opposite corner where it has a substitute rule (R9). -/
def Rec.expire (r : Rec) (opp : Option Rec) : Rec :=
  match opp with
  | none => r.lose
  | some o => if o.acceptable then r.substitute o else r.lose

/-- The hold timer of a HELD record runs. -/
def Rec.holding (r : Rec) : Bool := decide (r.validity = .held) && r.hold.isSome

/-! ### Derived records (R15 to R20) -/

/-- An update of a record: its value, validity or source changed (R3). Log entry 12. -/
def Rec.changed (old new : Rec) : Bool :=
  decide (old.value ≠ new.value) || decide (old.validity ≠ new.validity) || decide (old.source ≠ new.source)

def anyChanged (old new : List Rec) : Bool := (old.zip new).any fun p => p.1.changed p.2

/-- Primary when every input has source primary, partner otherwise (R1). -/
def sourceOf (inputs : List Origin) : Origin := if inputs.all fun o => decide (o = .primary) then .primary else .partner

/-- The largest age. -/
def oldest (ages : List Nat) : Nat := ages.foldr max 0

/-- SENSOR_LOST on entering LOST, and its end on becoming usable (R15, R17, R19, R20). -/
def reportDerived (id : Nat) (old new : Rec) (s : State) : State :=
  if old.usable ∧ new.usable = false then reportLost id s
  else if old.usable = false ∧ new.usable then endFault .sensorLost id s
  else s

/-- A derived record after a computation with validity `v`: a LOST record keeps its value and last-accepted value
(R1, R2). -/
def Rec.derive (old : Rec) (value : Int) (v : Validity) (age : Nat) (source : Origin) : Rec where
  value := if v.usable then value else old.value
  validity := v
  age := age
  source := source
  last := if v = .fresh then value else old.last
  hold := none

/-- LOAD of an axle (R17). -/
def loadOf (p : SignalParams) (im : Image) (x : Axle) : Rec :=
  let l := im.prs.get x.left
  let r := im.prs.get x.right
  (im.load.get x).derive
    (clamp 0 20000
      (divDown (l.value * p.aeff.get x) 100 + divDown (r.value * p.aeff.get x) 100 + p.unsprung.get x))
    (l.validity.worse r.validity) (max l.age r.age) (sourceOf [l.source, r.source])

def deriveLoad (x : Axle) (s : State) : State :=
  let new := loadOf s.prm.signals s.sa.image x
  reportDerived (22 + x.num) (s.sa.image.load.get x) new
    (s.withImage { s.sa.image with load := s.sa.image.load.set x new })

/-- R17 for all three axles (R5 at RUN entry, R18 at the freeze end). -/
def deriveLoads (s : State) : State := deriveLoad .c (deriveLoad .b (deriveLoad .a s))

/-- TWIST (R19). -/
def twistOf (im : Image) : Rec :=
  let h := fun i => (im.hgt.get i).value
  im.twist.derive
    (clamp (-3000) 3000 (divZero ((h .al + h .bl) - (h .ar + h .br)) 2 - (h .cl - h .cr)))
    (worst (im.hgt.toList.map (·.validity))) (oldest (im.hgt.toList.map (·.age)))
    (sourceOf (im.hgt.toList.map (·.source)))

def deriveTwist (s : State) : State :=
  let new := twistOf s.sa.image
  reportDerived 25 s.sa.image.twist new (s.withImage { s.sa.image with twist := new })

/-- The age of the wheel-speed record chosen: that of the records which share the highest value. Where their ages
differ the record is a free value (log entry 10). -/
def chosenAge (tied : List (Nat × Nat)) : Nat :=
  match tied with
  | [] => 0
  | (_, a) :: rest =>
    if rest.all fun p => decide (p.2 = a) then a
    else match tied.find? fun p => decide (p.1 = Config.tiedWheel tied) with
      | some p => p.2
      | none => a

/-- The usable wheel-speed records with their IDs. -/
def usableWheels (im : Image) : List (Nat × Rec) :=
  (Wheel.all.map fun w => (17 + w.num, im.wsp.get w)).filter fun p => p.2.usable

/-- VSPD (R15). -/
def vspdOf (sa : Acquisition) : Rec :=
  let wheels := usableWheels sa.image
  if 2 ≤ wheels.length then
    let top := (wheels.map (·.2.value)).foldr max 0
    let tied := (wheels.filter fun p => decide (p.2.value = top)).map fun p => (p.1, p.2.age)
    { value := top, validity := .fresh, age := chosenAge tied, source := .primary, last := top, hold := none }
  else match sa.portSpeedLeft with
    | some left =>
      { value := (sa.portSpeed : Int), validity := .substituted, age := Config.driveValidity - left,
        source := .port, last := sa.image.vspd.last, hold := none }
    | none => { sa.image.vspd with validity := .lost }

def deriveVspd (s : State) : State :=
  let new := vspdOf s.sa
  reportDerived 21 s.sa.image.vspd new (s.withImage { s.sa.image with vspd := new })

/-- ART_RATE from the history (R20). A LOST rate keeps source and age too (log entry 13). -/
def artRateOf (sa : Acquisition) : Rec :=
  let h := sa.artHist
  if h.length = 11 ∧ h.all (fun e => e.validity.usable) then
    let new := ((h.head?.map (·.value)).getD 0 - (h.getLast?.map (·.value)).getD 0) * 100
    sa.image.artRate.derive (clamp (-20000) 20000 new) (worst (h.map (·.validity))) sa.image.art.age
      (sourceOf (h.map (·.source)))
  else { sa.image.artRate with validity := .lost }

def deriveArtRate (s : State) : State :=
  let new := artRateOf s.sa
  reportDerived 26 s.sa.image.artRate new (s.withImage { s.sa.image with artRate := new })

/-- The place of the history that ART takes (R20). -/
def histOf (r : Rec) : HistVal := ⟨r.value, r.validity, r.source⟩

/-! ### Publication (R22) -/

/-- R28 at an update: a latching slot whose record was updated and is not FRESH forms its doubt latch. -/
def formLatches (old : Image) (s : State) : State :=
  s.withCiu { s.ciu with
    latches := (s.prm.slots.zipIdx).foldl (fun l p =>
      match p.1.signal with
      | none => l
      | some id =>
        if p.1.latchDoubt && (old.byId id).changed (s.sa.image.byId id) &&
            decide ((s.sa.image.byId id).validity ≠ .fresh) then
          l ||| (1#16 <<< p.2)
        else l) s.ciu.latches }

/-- All primary records, IDs 0..20 and 27 (R25). -/
def allSampled : BitVec 28 := 0x81FFFFF#28

/-- One publication of SA, made in an event that began in `s0` (R3, R22): latches, load ratios (R128), the VSPD update
of the Stop Hold Controller and of the doors (R51, R60, R82), and the report that ends START (R25). The doors examine
R82 here, before the closing withdraws a P_DOORn whose floor the same update fails (log entry 48), and after the Stop Hold
Controller, so that HOLD_CREEP enters the fault list before DOOR_OPEN_MOVING (log entry 45). -/
def publish (s0 s : State) : State :=
  let old := s0.sa.image
  let t := forEach Axle.all (fun x => (old.load.get x).changed (s.sa.image.load.get x)) updateRatio
    (formLatches old s)
  let u := if old.vspd.changed t.sa.image.vspd then doorSpeedUpdate (holdSpeedUpdate t) else t
  if s0.sa.sampled ≠ allSampled ∧ s.sa.sampled = allSampled then endStart u else u

/-! ### The sampling events -/

/-- TWIST when a height was updated since `s0`. -/
def twistAfter (s0 s : State) : State :=
  if anyChanged s0.sa.image.hgt.toList s.sa.image.hgt.toList then deriveTwist s else s

/-- The loads of the axles one of whose pressures was updated since `s0`, unless the freeze is in force (R17, R18). -/
def loadsAfter (s0 s : State) : State :=
  forEach Axle.all (fun x => !s0.kns.freeze &&
    ((s0.sa.image.prs.get x.left).changed (s.sa.image.prs.get x.left) ||
      (s0.sa.image.prs.get x.right).changed (s.sa.image.prs.get x.right))) deriveLoad s

/-- VSPD when a wheel speed was updated since `s0` (R15). -/
def vspdAfter (s0 s : State) : State :=
  if anyChanged s0.sa.image.wsp.toList s.sa.image.wsp.toList then deriveVspd s else s

/-- HEIGHT_SAMPLE. -/
def sampleHeights (raw : PerCorner Reading) (s : State) : State :=
  let v : PerCorner (Option Int) := .ofFn fun i => convert (s.prm.signals.hgt.get i) (-3000) 3000 (raw.get i)
  let win : PerCorner (List Int) := .ofFn fun i => pushSample Config.heightWindow (s.sa.hgtWin.get i) (v.get i)
  let own : PerCorner Rec := .ofFn fun i =>
    settle Config.heightHold (heightMean (win.get i)) (v.get i) (s.sa.image.hgt.get i)
  let got := v.toList.map (·.isSome)
  let t := s.withSa { s.sa with hgtWin := win, image := { s.sa.image with hgt := own } }
  publish s (twistAfter s (followHeights (markSampled 0 got (endLost 0 got t))))

/-- BELLOWS_SAMPLE. -/
def sampleBellows (raw : PerCorner Reading) (s : State) : State :=
  let v : PerCorner (Option Int) := .ofFn fun i => convert (s.prm.signals.prs.get i) 0 1000 (raw.get i)
  let win : PerCorner (List Int) := .ofFn fun i => pushSample Config.bellowsWindow (s.sa.prsWin.get i) (v.get i)
  let own : PerCorner Rec := .ofFn fun i =>
    settle Config.bellowsHold (bellowsMean (win.get i)) (v.get i) (s.sa.image.prs.get i)
  let got := v.toList.map (·.isSome)
  let t := s.withSa { s.sa with prsWin := win, image := { s.sa.image with prs := own } }
  publish s (loadsAfter s (followBellows (markSampled 6 got (endLost 6 got t))))

/-- The three brake pressures of PAIR_SAMPLE (R3). -/
def sampleBrakes (raw : PerAxle Reading) (s : State) : State :=
  let v : PerAxle (Option Int) := .ofFn fun x => convert (s.prm.signals.brp.get x) 0 1000 (raw.get x)
  let own : PerAxle Rec := .ofFn fun x =>
    settle Config.brakeHold ((v.get x).getD 0) (v.get x) (s.sa.image.brp.get x)
  let got := v.toList.map (·.isSome)
  markSampled 12 got (endLost 12 got (s.withImage { s.sa.image with brp := own }))

/-- What a pair sample does: the record, the disagreement flag, and the reports that go with it (R12, R13). -/
structure PairResult where
  record : Rec
  flag : Bool
  given : Bool
  raise : Bool
  agree : Bool
  deriving DecidableEq, Repr

/-- The pair gives the record a value. -/
def Rec.give (value : Int) (v : Validity) (source : Origin) : Rec :=
  { value := value, validity := v, age := 0, source := source, last := value, hold := none }

/-- FRESH and SUBSTITUTED records become HELD with the hold timer started; others stay (R12, R13). -/
def Rec.withdraw (window : Nat) (r : Rec) : Rec :=
  match r.validity with
  | .fresh | .substituted => { r with validity := .held, hold := some window }
  | .held | .lost => r

/-- R12 and R13. -/
def pairSample (window : Nat) (tol : Int) (a1 a2 : Option Int) (flag : Bool) (r : Rec) : PairResult :=
  match a1, a2 with
  | some x, some y =>
    if magnitude (x - y) ≤ tol then ⟨.give (divZero (x + y) 2) .fresh .primary, false, true, false, flag⟩
    else ⟨if flag then r else r.withdraw window, true, false, true, false⟩
  | some x, none | none, some x =>
    if flag then ⟨r, true, false, false, false⟩ else ⟨.give x .substituted .partner, false, true, false, false⟩
  | none, none => if flag then ⟨r, true, false, false, false⟩ else ⟨r.withdraw window, false, false, false, false⟩

/-- The fault reports of a pair sample for the record with this ID (R12, R13). SENSOR_DISAGREE is raised in START too (log
entry 57). -/
def reportPair (id : Nat) (old : Rec) (q : PairResult) (s : State) : State :=
  let t := if q.given ∧ old.usable = false then endFault .sensorLost id s else s
  let u := if q.raise then raiseFault .sensorDisagree id t else t
  if q.agree then endFault .sensorDisagree id u else u

/-- The ART pair of PAIR_SAMPLE, with the history and ART_RATE (R20). -/
def sampleArt (r1 r2 : Reading) (s : State) : State :=
  let p := s.prm.signals
  let old := s.sa.image.art
  let q := pairSample Config.artHold p.artTol (convert p.art1 (-5500) 5500 r1) (convert p.art2 (-5500) 5500 r2)
    s.sa.artDisagree old
  let t := s.withSa { s.sa with
    image := { s.sa.image with art := q.record }, artDisagree := q.flag,
    artHist := (histOf q.record :: s.sa.artHist).take 11 }
  markSampled 15 [q.given] (reportPair 15 old q t)

/-- The RST pair of PAIR_SAMPLE. -/
def sampleRst (r1 r2 : Reading) (s : State) : State :=
  let p := s.prm.signals
  let old := s.sa.image.rst
  let q := pairSample Config.rstHold p.rstTol (convert p.rst1 (-1200) 1200 r1) (convert p.rst2 (-1200) 1200 r2)
    s.sa.rstDisagree old
  let t := s.withSa { s.sa with image := { s.sa.image with rst := q.record }, rstDisagree := q.flag }
  markSampled 16 [q.given] (reportPair 16 old q t)

/-- PAIR_SAMPLE. The reports of ART stand in the fault list before those of RST (log entry 45). -/
def samplePairs (brp : PerAxle Reading) (art1 art2 rst1 rst2 : Reading) (s : State) : State :=
  publish s (deriveArtRate (sampleRst rst1 rst2 (sampleArt art1 art2 (sampleBrakes brp s))))

/-- A pulse edge (R4). -/
def pulseEdge (w : Wheel) (usec : Nat) (s : State) : State :=
  let now := s.sa.usTime + usec
  let p := s.sa.pulses.get w
  s.withSa { s.sa with
    pulses := s.sa.pulses.set w
      { lastEdge := some now,
        lastInterval := match p.lastEdge with
          | none => none
          | some e => some (now - e) } }

/-- The raw rate of a wheel at a time in microseconds (R4). -/
def pulseRate (w : Wheel) (now : Nat) (p : Pulses) : Nat :=
  match p.lastEdge, p.lastInterval with
  | some e, some i =>
    if 1000000 < now - e then 0
    else
      let longer := max i (now - e)
      if longer = 0 then min 65535 (Config.zeroIntervalRate w now) else min 65535 (10000000 / longer)
  | _, _ => 0

/-- WHEEL_SPEED_EVALUATION. -/
def sampleWheels (lineFault : PerWheel Bool) (usec : Nat) (s : State) : State :=
  let now := s.sa.usTime + usec
  let raw := fun w => if lineFault.get w then none else some (pulseRate w now (s.sa.pulses.get w))
  let v : PerWheel (Option Int) := .ofFn fun w => convert (s.prm.signals.wsp.get w) 0 15000 (raw w)
  let own : PerWheel Rec := .ofFn fun w =>
    settle Config.wheelHold ((v.get w).getD 0) (v.get w) (s.sa.image.wsp.get w)
  let got := v.toList.map (·.isSome)
  let t := s.withImage { s.sa.image with wsp := own }
  publish s (vspdAfter s (markSampled 17 got (endLost 17 got t)))

/-- VSUP_SAMPLE (R21); VSUP_LOW is a view. -/
def sampleSupply (raw : Reading) (s : State) : State :=
  let v := convert s.prm.signals.vsup 0 6000 raw
  let own := settle Config.supplyHold (v.getD 0) v s.sa.image.vsup
  publish s (markSampled 27 [v.isSome] (endLost 27 [v.isSome] (s.withImage { s.sa.image with vsup := own })))

/-! ### The expiry events -/

/-- The record of a hold timer. -/
def Image.sampledRec (im : Image) : SampledRec → Rec
  | .hgt i => im.hgt.get i
  | .prs i => im.prs.get i
  | .brp x => im.brp.get x
  | .wsp w => im.wsp.get w
  | .vsup => im.vsup

/-- Its record ID. -/
def recordId : SampledRec → Nat
  | .hgt i => i.num
  | .prs i => 6 + i.num
  | .brp x => 12 + x.num
  | .wsp w => 17 + w.num
  | .vsup => 27

/-- The opposite corner's record, where R9 has a substitute rule. -/
def Image.substituteOf (im : Image) : SampledRec → Option Rec
  | .hgt i => some (im.hgt.get i.opposite)
  | .prs i => some (im.prs.get i.opposite)
  | .brp _ | .wsp _ | .vsup => none

def Image.setSampled (im : Image) (k : SampledRec) (r : Rec) : Image :=
  match k with
  | .hgt i => { im with hgt := im.hgt.set i r }
  | .prs i => { im with prs := im.prs.set i r }
  | .brp x => { im with brp := im.brp.set x r }
  | .wsp w => { im with wsp := im.wsp.set w r }
  | .vsup => { im with vsup := r }

/-- The record's sample window is emptied, if it has one (R9). -/
def emptyWindow (k : SampledRec) (s : State) : State :=
  match k with
  | .hgt i => s.withSa { s.sa with hgtWin := s.sa.hgtWin.set i [] }
  | .prs i => s.withSa { s.sa with prsWin := s.sa.prsWin.set i [] }
  | .brp _ | .wsp _ | .vsup => s

/-- HOLD_WINDOW_EXPIRY (R9, R10). -/
def holdWindowEnd (k : SampledRec) (s : State) : State :=
  let r := s.sa.image.sampledRec k
  if r.holding then
    let new := r.expire (s.sa.image.substituteOf k)
    let t := emptyWindow k (s.withImage (s.sa.image.setSampled k new))
    let u := if new.usable then t else reportLost (recordId k) t
    publish s (match k with
      | .hgt _ => twistAfter s (followHeights u)
      | .prs _ => loadsAfter s (followBellows u)
      | .wsp _ => vspdAfter s u
      | .brp _ | .vsup => u)
  else s

/-- PAIR_HOLD_TIMER_EXPIRY (R12, R13, R20). -/
def pairHoldEnd (k : PairRec) (s : State) : State :=
  match k with
  | .art =>
    if s.sa.image.art.holding then
      let new := s.sa.image.art.lose
      let t := s.withSa { s.sa with
        image := { s.sa.image with art := new },
        artHist := match s.sa.artHist with
          | [] => []
          | _ :: h => histOf new :: h }
      publish s (deriveArtRate (reportLost 15 t))
    else s
  | .rst =>
    if s.sa.image.rst.holding then
      publish s (reportLost 16 (s.withImage { s.sa.image with rst := s.sa.image.rst.lose }))
    else s

/-- PORT_R_SPEED_EXPIRY (R16). -/
def portSpeedEnd (s : State) : State :=
  match s.sa.portSpeedLeft with
  | none => s
  | some _ => publish s (deriveVspd (s.withSa { s.sa with portSpeedLeft := none }))

/-- An accepted DRIVE STATUS hands its speed over (R16). VSPD is recomputed at every one, also where it marks its speed
not valid and no speed was valid before (log entry 54). -/
def takePortSpeed (speed : Nat) (valid : Bool) (s : State) : State :=
  publish s (deriveVspd (s.withSa { s.sa with
    portSpeed := if valid then min 15000 speed else s.sa.portSpeed,
    portSpeedLeft := if valid then some Config.driveValidity else none }))

/-! ### The freeze end and RUN entry -/

/-- The freeze ends: the loads are recomputed and published, and the ratios with them (R18, R129). The freeze request
is clear already. -/
def endFreeze (s : State) : State := updateRatios (publish s (deriveLoads s))

/-- RUN entry (R5): the windows are emptied and the loads recomputed; `s` has the loaded parameters. -/
def acquisitionRunEntry (s : State) : State :=
  publish s (deriveLoads (s.withSa { s.sa with hgtWin := .fill [], prsWin := .fill [] }))

end Sys2Proof.Machine
end

