-- ==== Sys2Proof/Machine/Level.lean ====
section
/-! DEFINITION. The Levelling Unit (spec/05_corner_heights_masks_and_levelling.md): the levelling computation, the
target writes and the height mode. The mask writes that can end a kneel are in Machine/Kneel.lean. -/

namespace Sys2Proof.Machine

/-! ### Target writes (R93) -/

/-- A target write: the corners of the mask take their values, clamped to -3000..3000, in one event (R93). -/
def writeTargets (mask : Corners) (value : Corner → Int) (s : State) : State :=
  s.withLvu { s.lvu with
    target := .ofFn fun i => if hasCorner mask i then clamp (-3000) 3000 (value i) else s.lvu.target.get i }

/-- The height rewrite: the ride targets into every corner outside entry 1 (R93). -/
def heightRewrite (s : State) : State := writeTargets (~~~s.lvu.kneelSet) s.rideTarget s

/-- A change of the height mode (R94), with the kneel's part in RAISING (R115), in every device mode (log entry 50). -/
def setHeightMode (m : HeightMode) (s : State) : State :=
  if s.lvu.heightMode = m then s
  else
    let t := heightRewrite (s.withLvu { s.lvu with heightMode := m })
    if t.kns.state = .raising then writeTargets t.lvu.kneelSet t.rideTarget t else t

/-! ### The levelling computation (R85 to R92) -/

/-- What the computation that an LVL boundary starts takes (R85). -/
def takeLevelInputs (s : State) : State :=
  s.withLvu { s.lvu with
    work := some
      { hgt := s.sa.image.hgt, target := s.lvu.target, levelSet := s.lvu.levelSet, driveSet := s.lvu.driveSet,
        pauseSet := s.kns.pauseSet, mode := s.pfs.mode, kneel := s.kns.state, vspd := s.vspd,
        levelDrive := s.ciu.perms.levelDrive, params := s.prm.level } }

/-- The speed class of the frame (R85). -/
def LevelInputs.speed (w : LevelInputs) : SpeedClass :=
  if w.vspd.usableUpTo Config.standSpeed then .stand else .motion

/-- R86. -/
def LevelInputs.error (w : LevelInputs) (i : Corner) : Int :=
  if (w.hgt.get i).usable then w.target.get i - (w.hgt.get i).value else 0

/-- R87. -/
def LevelInputs.demand (w : LevelInputs) (i : Corner) : Int :=
  clamp (-3000) 3000
    (divZero (total (Corner.all.map fun j => (w.params.coupling.get i).get j * w.error j)) 1024)

/-- R88. -/
def LevelInputs.actMask (w : LevelInputs) : Corners :=
  match w.mode with
  | .start | .config | .safe => 0#6
  | .run =>
    match w.kneel with
    | .ride =>
      (match w.speed with
        | .stand => w.levelSet
        | .motion => if w.levelDrive then w.levelSet &&& w.driveSet else 0#6)
    | .lowering | .paused | .knelt | .raising => w.levelSet &&& ~~~w.pauseSet

/-- DB (R89). -/
def LevelInputs.deadband (w : LevelInputs) : Int :=
  match w.speed with
  | .stand => w.params.dbStand
  | .motion => w.params.dbDrive

/-- The width limit (R90). -/
def LevelInputs.limit (w : LevelInputs) : Int :=
  match w.speed with
  | .stand => w.params.maxWidthStand
  | .motion => w.params.maxWidthDrive

/-- The demand after the act mask and the deadband (R88, R89). -/
def LevelInputs.kept (w : LevelInputs) (i : Corner) : Int :=
  if hasCorner w.actMask i ∧ w.deadband < magnitude (w.demand i) then w.demand i else 0

/-- The delay of corner `i` (R91). -/
def LevelInputs.delay (w : LevelInputs) (i : Corner) : Int := (i.num : Int) * w.params.stagger

/-- The width of a kept demand under a gain, before the cut (R90). -/
def LevelInputs.rawWidth (w : LevelInputs) (d gain : Int) : Int :=
  min w.limit (max w.params.minPulse (divZero (magnitude d * gain) 64))

/-- The cut at the end of the frame (R91). -/
def cutWidth (delay width : Int) : Int := if 1000 < delay + width then 1000 - delay else width

/-- The fill value of corner `i` (R90, R91). -/
def LevelInputs.fill (w : LevelInputs) (i : Corner) : Pulse where
  delay := w.delay i
  width := if 0 < w.kept i then cutWidth (w.delay i) (w.rawWidth (w.kept i) (w.params.kfill.get i)) else 0

/-- The vent value of corner `i` (R90, R91). -/
def LevelInputs.vent (w : LevelInputs) (i : Corner) : Pulse where
  delay := w.delay i
  width := if w.kept i < 0 then cutWidth (w.delay i) (w.rawWidth (w.kept i) (w.params.kvent.get i)) else 0

/-- The frame record of a computation (R92). -/
def LevelInputs.record (w : LevelInputs) (num : BitVec 16) : FrameRecord where
  num := num
  speed := w.speed
  actMask := w.actMask
  deadband := w.deadband
  limit := w.limit
  error := .ofFn w.error
  demand := .ofFn w.demand
  pauseSet := w.pauseSet
  levelDrive := w.levelDrive
  fill := .ofFn w.fill
  vent := .ofFn w.vent

/-- The end of the computation in progress (R85, R91, R92); nothing when none is in progress (log entry 30). -/
def levellingEnd (s : State) : State :=
  match s.lvu.work with
  | none => s
  | some w =>
    let r := w.record (s.lvu.record.num + 1)
    commitRequest .lvl (stageCorners r.fill r.vent (s.withLvu { s.lvu with record := r, work := none }))

end Sys2Proof.Machine
end

