-- ==== Sys2Proof/Machine/Kneel.lean ====
section
/-! DEFINITION. The Kneel Sequencer (spec/06_kneeling.md), without its port commands, and the writes to the mask table
(R99 to R101), one of which can end a kneel (R118). -/

namespace Sys2Proof.Machine

/-- A change of the kneel state raises KNEEL_STATE_CHANGED (R121). -/
def setKneel (k : KneelState) (s : State) : State :=
  if s.kns.state = k then s else raiseAttention .kneelStateChanged (s.withKns { s.kns with state := k })

/-- The kind pattern (R109). -/
def kindPattern (side : Side) : KneelKind → Corners
  | .front => side.corners &&& 0x03#6
  | .full => side.corners

/-- What a KNEEL of this kind would write into entry 1 now (R109). -/
def State.kneelCorners (s : State) (k : KneelKind) : Corners :=
  kindPattern s.prm.kneel.curbSide k &&& s.lvu.levelSet

/-- kneelDepth into the entry-1 corners, the lowering timer started, the pause set cleared (R109, R110). -/
def startLowering (s : State) : State :=
  let t := writeTargets s.lvu.kneelSet (fun _ => s.prm.kneel.kneelDepth) s
  setKneel .lowering (t.withKns { t.kns with
    lowering := some s.prm.kneel.lowerTime, pauseSet := 0#6, behind := 0#6 })

/-- Entry to LOWERING from RIDE (R109). -/
def beginKneel (k : KneelKind) (s : State) : State :=
  let t := s.withLvu { s.lvu with kneelSet := s.kneelCorners k }
  startLowering (t.withKns { t.kns with kind := k, freeze := true })

/-- Entry to PAUSED (R113). -/
def enterPaused (s : State) : State :=
  let t := writeTargets s.lvu.kneelSet
    (fun i => if (s.sa.image.hgt.get i).usable then (s.sa.image.hgt.get i).value else s.lvu.target.get i) s
  setKneel .paused (t.withKns { t.kns with lowering := none, pauseSet := 0#6 })

/-- The ends of the KNEEL_TIMEOUT conditions of this kneel (R111, R116). -/
def endKneelTimeouts (s : State) : State :=
  let t := forEach Corner.all (hasCorner s.kns.kneelTimeouts) (fun i => endFault .kneelTimeout i.num) s
  t.withKns { t.kns with kneelTimeouts := 0#6 }

/-- The ends of the RAISE_TIMEOUT conditions of this kneel (R116). -/
def endRaiseTimeouts (s : State) : State :=
  let t := forEach Corner.all (hasCorner s.kns.raiseTimeouts) (fun i => endFault .raiseTimeout i.num) s
  t.withKns { t.kns with raiseTimeouts := 0#6 }

/-- Entry to KNELT (R111). -/
def enterKnelt (s : State) : State :=
  let t := endKneelTimeouts s
  setKneel .knelt (t.withKns { t.kns with lowering := none, pauseSet := 0#6 })

/-- Entry to RAISING, and a RAISE taken in RAISING (R114). -/
def enterRaising (s : State) : State :=
  let t := writeTargets s.lvu.kneelSet s.rideTarget s
  setKneel .raising (t.withKns { t.kns with
    lowering := none, pauseSet := 0#6, behind := 0#6, raising := some s.prm.kneel.raiseTime })

/-- A RAISE taken in RAISING: the timer restarts and the targets are written again (R114). -/
def raiseAgain (s : State) : State :=
  let t := writeTargets s.lvu.kneelSet s.rideTarget s
  t.withKns { t.kns with raising := some s.prm.kneel.raiseTime }

/-- Entry to RIDE (R116). -/
def enterRide (s : State) : State :=
  let t := writeTargets s.lvu.kneelSet s.rideTarget s
  let u := t.withLvu { t.lvu with kneelSet := 0#6 }
  let v := setKneel .ride (u.withKns { u.kns with
    lowering := none, raising := none, pauseSet := 0#6, behind := 0#6, freeze := false })
  let w := if s.kns.freeze then endFreeze v else v
  endRaiseTimeouts (endKneelTimeouts w)

/-! ### Completion and twist, at an LVL boundary (R111, R119) -/

/-- An entry-1 corner has arrived (R111). -/
def State.arrived (s : State) (tol : Int) (i : Corner) : Bool :=
  (s.sa.image.hgt.get i).usable &&
    decide (magnitude ((s.sa.image.hgt.get i).value - s.lvu.target.get i) ≤ tol)

/-- The entry-1 corners that have not arrived. -/
def State.notArrived (s : State) (tol : Int) : Corners :=
  cornerSet fun i => hasCorner s.lvu.kneelSet i && !s.arrived tol i

/-- The completion test (R111). -/
def completionTest (s : State) : State :=
  match s.kns.state with
  | .lowering =>
    let b := s.notArrived s.prm.kneel.kneelTol
    let t := s.withKns { s.kns with behind := b }
    if b = 0#6 then enterKnelt t else t
  | .raising =>
    let b := s.notArrived s.prm.kneel.rideTol
    let t := s.withKns { s.kns with behind := b }
    if b = 0#6 then enterRide t else t
  | .ride | .paused | .knelt => s

/-- The drop of a corner (R119). -/
def State.drop (s : State) (i : Corner) : Int := s.rideTarget i - (s.sa.image.hgt.get i).value

/-- The entry-1 corners of a section. -/
def State.sectionCorners (s : State) (rear : Bool) : List Corner :=
  Corner.all.filter fun i => hasCorner s.lvu.kneelSet i && (decide (i.axle = .c) == rear)

/-- The progress of a section: the mean of the drops of its entry-1 corners, 0 when it has none (R119). -/
def State.progress (s : State) (rear : Bool) : Int :=
  let cs := s.sectionCorners rear
  divZero (total (cs.map s.drop)) (cs.length : Int)

/-- The corner set of a section's entry-1 corners. -/
def State.sectionSet (s : State) (rear : Bool) : Corners :=
  cornerSet fun i => decide (i ∈ s.sectionCorners rear)

/-- The pause set that an LVL boundary forms (R119). -/
def State.pauseSetNow (s : State) : Corners :=
  match s.kns.state with
  | .ride | .paused | .knelt => 0#6
  | .lowering | .raising =>
    if s.sa.image.twist.usable then
      if magnitude s.sa.image.twist.value ≤ s.prm.kneel.twistLimit then 0#6
      else if s.progress false = s.progress true then 0#6
      else if (decide (s.progress true < s.progress false)) == decide (s.kns.state = .lowering) then s.sectionSet false
      else s.sectionSet true
    else s.lvu.kneelSet

/-- What the Kneel Sequencer does at an LVL boundary in RUN: the completion test, then the pause set. In the other
modes it makes no test and forms no pause set (R122). -/
def kneelBoundary (s : State) : State :=
  if s.pfs.mode = .run then
    let t := completionTest s
    t.withKns { t.kns with pauseSet := t.pauseSetNow }
  else s

/-! ### Timers (R113, R115) -/

/-- The lowering timer's expiry (R113). The corners' entries follow in index order (log entry 45). -/
def loweringExpiry (s : State) : State :=
  match s.kns.lowering with
  | none => s
  | some _ =>
    if s.kns.state = .lowering then
      let b := s.kns.behind &&& s.lvu.kneelSet
      let t := s.withKns { s.kns with kneelTimeouts := s.kns.kneelTimeouts ||| b }
      enterPaused (forEach Corner.all (hasCorner b) (fun i => raiseFault .kneelTimeout i.num) t)
    else s.withKns { s.kns with lowering := none }

/-- The raising timer's expiry (R115). The corners' entries follow in index order (log entry 45). -/
def raisingExpiry (s : State) : State :=
  match s.kns.raising with
  | none => s
  | some _ =>
    let t := s.withKns { s.kns with raising := none }
    if s.kns.state = .raising then
      let b := s.kns.behind &&& s.lvu.kneelSet
      forEach Corner.all (hasCorner b) (fun i => raiseFault .raiseTimeout i.num)
        (t.withKns { t.kns with raiseTimeouts := t.kns.raiseTimeouts ||| b })
    else t

/-- SAFE entry (R122): the timer that runs stops and the pause set is cleared. A LOWERING kneel becomes PAUSED through
the withdrawal of P_KNEEL. -/
def kneelSafeEntry (s : State) : State :=
  s.withKns { s.kns with lowering := none, raising := none, pauseSet := 0#6 }

/-! ### Writes to the mask table (R99 to R101) -/

/-- The content that a SET MASK stores (R99). -/
def State.maskContent (s : State) (pattern : Corners) (andWith : Option Nat) : Corners :=
  match andWith with
  | none => pattern
  | some e => pattern &&& s.maskEntry e

/-- A write to entry 2 (R100), with the end of a kneel that it leaves without corners (R118). A corner that it takes out
of entry 1 stays in the pause set until the next LVL boundary forms one anew (log entry 55). -/
def storeLevelSet (m : Corners) (s : State) : State :=
  let removed := s.lvu.kneelSet &&& ~~~m
  let t := writeTargets removed s.rideTarget
    (s.withLvu { s.lvu with levelSet := m, kneelSet := s.lvu.kneelSet &&& m })
  if t.lvu.kneelSet = 0#6 ∧ t.kns.state ≠ .ride then enterRide t else t

/-- A write to entry 3 (R101). -/
def storeRaiseSet (m : Corners) (s : State) : State :=
  let t := s.withLvu { s.lvu with raiseSet := m }
  if t.lvu.heightMode = .raised then heightRewrite t else t

/-- A write to entry 4 (R101). -/
def storeDriveSet (m : Corners) (s : State) : State := s.withLvu { s.lvu with driveSet := m }

/-- A SET MASK that passes its checks (R99). -/
def storeMask (dest : Nat) (m : Corners) (s : State) : State :=
  match dest with
  | 2 => storeLevelSet m s
  | 3 => storeRaiseSet m s
  | 4 => storeDriveSet m s
  | _ => s

/-- RUN entry (R98): entries 2, 3 and 4 are loaded and entry 1 is reduced; in RAISED the new ride targets are
written. -/
def levelRunEntry (e2 e3 e4 : Corners) (s : State) : State :=
  let t := s.withLvu { s.lvu with
    levelSet := e2, raiseSet := e3, driveSet := e4, kneelSet := s.lvu.kneelSet &&& e2 }
  if t.lvu.heightMode = .raised then heightRewrite t else t

end Sys2Proof.Machine
end

