-- ==== Sys2Proof/Machine/Steer.lean ====
section
/-! DEFINITION. The Steer and Joint Unit (spec/08_rear_axle_steering_and_joint_damping.md). The lock cause set and the
pin and valve outputs are views (Machine/Flags.lean). -/

namespace Sys2Proof.Machine

/-- A change of the steer state raises STEER_STATE_CHANGED (R158). -/
def setSteer (k : SteerState) (s : State) : State :=
  if s.sju.state = k then s else raiseAttention .steerStateChanged (s.withSju { s.sju with state := k })

/-- Axle C, the source of the steer's faults (R148, R156). -/
def steerSource : Nat := Axle.num .c

/-- The ends of the conditions in force, on entry to LOCKED or FREE (R147, R156). -/
def endSteerFaults (s : State) : State :=
  let t := if s.sju.centringTimeout then endFault .steerCentringTimeout steerSource s else s
  let u := if s.sju.trackingError then endFault .steerTrackingError steerSource t else t
  u.withSju { u.sju with centringTimeout := false, trackingError := false }

/-- A bridge duty of 0 is staged and a commit of the STR group requested (R147, R150). -/
def stopBridge (s : State) : State := commitRequest .str (stageBridge 0 s)

/-- Entry to FAULTED (R150); nothing when the steer is FAULTED already. -/
def enterFaulted (s : State) : State :=
  if s.sju.state = .faulted then s
  else stopBridge (setSteer .faulted (s.withSju { s.sju with
    angle := 0, target := 0, centring := none, settle := none, tracking := none }))

/-- Entry to LOCKED (R147). -/
def enterLocked (s : State) : State :=
  stopBridge (endSteerFaults (setSteer .locked (s.withSju { s.sju with
    centring := none, settle := none, tracking := none })))

/-- Entry to FREE from CENTRING (R147) or LOCKED (R149): the tracking timer runs on only from CENTRING (R156). -/
def enterFree (s : State) : State :=
  endSteerFaults (setSteer .free (s.withSju { s.sju with
    centring := none, settle := none,
    tracking := if s.sju.state = .centring then s.sju.tracking else none }))

/-- Entry to CENTRING from FREE (R146) or FAULTED (R151). -/
def enterCentring (s : State) : State :=
  setSteer .centring (s.withSju { s.sju with
    target := 0, centring := some Config.centringTime, settle := none })

/-- The steer is FAULTED and the four conditions under which it leaves for CENTRING all hold (R151). -/
def State.centringDue (s : State) : Bool :=
  decide (s.sju.state = .faulted) && s.sa.image.rst.usable && decide (s.pfu.chan.bridge.state = .armed) &&
    s.lockCaused && decide (s.kns.state = .ride)

/-- The way out of FAULTED, in the first event after which the four conditions hold (R151). `was` is the steer state
before the event: FAULTED is not left in the event that enters it; and an event that reaches no block beyond a port is
not asked (log entry 22). -/
def leaveFaulted (was : SteerState) (s : State) : State :=
  if was = .faulted ∧ s.centringDue then enterCentring s else s

/-- R146, R147, R149 and R151, on the lock causes as they stand. -/
def steerReact (was : SteerState) (s : State) : State :=
  match s.sju.state with
  | .free => if s.lockCaused then enterCentring s else s
  | .centring | .locked => if s.lockCaused then s else enterFree s
  | .faulted => leaveFaulted was s

/-! ### The steer update (R153 to R156) -/

/-- The interpolation between the points of the gain table, for a speed above the first one (R153). -/
def interpolate (v : Int) : List (Int × Int) → Int
  | [] => 0
  | [(_, g)] => g
  | (v0, g0) :: (v1, g1) :: rest =>
    if v < v1 then g0 + divZero ((g1 - g0) * (v - v0)) (v1 - v0) else interpolate v ((v1, g1) :: rest)

/-- The gain g (R153). -/
def gainOf (table : List (Int × Int)) (vspd : Rec) : Int :=
  if vspd.usable then
    match table with
    | [] => 0
    | (v0, g0) :: rest => if vspd.value ≤ v0 then g0 else interpolate vspd.value ((v0, g0) :: rest)
  else 0

/-- The tracking target (R153). -/
def targetOf (p : SteerParams) (st : SteerState) (art g : Int) : Int :=
  match st with
  | .free => clamp (-p.maxAngle) p.maxAngle (p.polarity * -(divZero (art * g) 1024))
  | .centring | .locked | .faulted => 0

/-- The commanded angle after an update (R154). -/
def moveAngle (p : SteerParams) (st : SteerState) (c target : Int) : Int :=
  match st with
  | .free | .centring => c + clamp (-p.rate) p.rate (target - c)
  | .locked | .faulted => 0

/-- The position loop drives the bridge (R152). -/
def State.positionLoop (s : State) : Bool :=
  match s.sju.state with
  | .free | .centring => decide (s.pfs.mode = .run)
  | .locked | .faulted => false

/-- The duty of the position loop (R155). -/
def loopDuty (p : SteerParams) (rst : Rec) (err : Int) : Int :=
  if rst.usable = false ∨ magnitude err ≤ Config.positionDeadband then 0
  else clamp (-p.dMax) p.dMax (divZero (err * p.kp) 256)

/-- The settle timer at an update (R147), with c as the update leaves it (log entry 20). -/
def settleAfter (s : State) (c : Int) : Option Nat :=
  match s.sju.state with
  | .centring =>
    if c = 0 ∧ s.sa.image.rst.usable ∧ magnitude s.sa.image.rst.value ≤ Config.settleTolerance then
      (match s.sju.settle with
        | none => some Config.settleTime
        | some n => some n)
    else none
  | .free | .locked | .faulted => s.sju.settle

/-- The tracking timer at an update (R156). -/
def trackingAfter (s : State) (err : Int) : Option Nat :=
  if s.positionLoop ∧ s.sa.image.rst.usable then
    if Config.trackingLimit < magnitude err then
      (match s.sju.tracking with
        | none => some Config.trackingTime
        | some n => some n)
    else none
  else s.sju.tracking

/-- STEER_UPDATE. -/
def steerUpdate (s : State) : State :=
  let p := s.prm.steer
  let g := gainOf p.table s.vspd
  let target := targetOf p s.sju.state s.sa.image.art.value g
  let c := moveAngle p s.sju.state s.sju.angle target
  let err := c - s.sa.image.rst.value
  let duty := if s.positionLoop then loopDuty p s.sa.image.rst err else 0
  commitRequest .str (stageBridge duty (s.withSju { s.sju with
    angle := c, target := target, gain := g, err := err, duty := duty,
    settle := settleAfter s c, tracking := trackingAfter s err, steerNum := s.sju.steerNum + 1 }))

/-! ### Timers (R147, R148, R156) -/

/-- The settle timer's expiry. -/
def settleExpiry (s : State) : State :=
  match s.sju.settle with
  | none => s
  | some _ => if s.sju.state = .centring then enterLocked s else s.withSju { s.sju with settle := none }

/-- The centring timer's expiry. -/
def centringExpiry (s : State) : State :=
  match s.sju.centring with
  | none => s
  | some _ =>
    if s.sju.state = .centring then
      enterFaulted (raiseFault .steerCentringTimeout steerSource (s.withSju { s.sju with centringTimeout := true }))
    else s.withSju { s.sju with centring := none }

/-- The tracking timer's expiry. -/
def trackingExpiry (s : State) : State :=
  match s.sju.tracking with
  | none => s
  | some _ =>
    enterFaulted (raiseFault .steerTrackingError steerSource
      (s.withSju { s.sju with tracking := none, trackingError := true }))

/-! ### Joint damping (R157) -/

/-- What the joint computation that a BRK boundary starts takes. -/
def takeJointInputs (s : State) : State :=
  s.withSju { s.sju with
    work := some
      { art := s.sa.image.art, artRate := s.sa.image.artRate, retarder := s.cp.retarder, params := s.prm.steer } }

/-- D and its components; the components keep their last values where D is set without them (log entry 44). -/
def JointInputs.damping (w : JointInputs) (old : Damping) : Damping :=
  if w.art.usable ∧ w.artRate.usable then
    let base := w.params.dBase
    let rate := divZero (magnitude w.artRate.value * w.params.kj) 1024
    let retarder := if w.retarder then w.params.dRet else 0
    let angle := if w.params.angleLimit < magnitude w.art.value then w.params.dLim else 0
    let d := clamp 0 1000 (base + rate + retarder + angle)
    { demand := d, base := base, rate := rate, retarder := retarder, angle := angle, joint := 1000 - d }
  else { old with demand := 1000, joint := 0 }

/-- JOINT_COMPUTATION: the end of the computation in progress; nothing when none is in progress (log entry 30). -/
def jointEnd (s : State) : State :=
  match s.sju.work with
  | none => s
  | some w =>
    let d := w.damping s.sju.damping
    stageJoint d.joint (s.withSju { s.sju with damping := d, jointNum := s.sju.jointNum + 1, work := none })

end Sys2Proof.Machine
end

