-- ==== Sys2Proof/Machine/Interlock.lean ====
section
/-! DEFINITION. The Compare and Interlock Unit (spec/02_compare_slots_and_the_interlock_program.md): the gate program,
publications, floor withdrawal and passes; and the closing of an event, in which every block takes what the event's
own effect asserted (trips R173, abandonment R137, FAULTED R150, withdrawals R40 and R42, auto-raise R117, lock causes
R145 to R151) and the passes are requested (R37). -/

namespace Sys2Proof.Machine

/-! ### The gate program (R34, R35, R38) -/

/-- An operation on two bits (R34). -/
def operate : Nat → Bool → Bool → Bool
  | 0, a, b => a && b
  | 1, a, b => a && !b
  | 2, a, b => a || b
  | 3, a, b => a || !b
  | 4, a, b => !(a && b)
  | 5, a, b => !(a || b)
  | 6, a, b => a != b
  | _, a, b => a == b

/-- A source as a term reads it: 0..87 from the snapshot, 88..112 from the working bits (R38). -/
def readSource (snap work : List Bool) (i : Nat) : Bool :=
  if i < 88 then snap.getD i false else work.getD (i - 88) false

/-- One term (R35). -/
def runTerm (snap work : List Bool) (t : Term) : List Bool :=
  work.set (t.target - 88) (operate t.op (readSource snap work t.a) (readSource snap work t.b))

/-- All terms in list order, from working bits 0: scratch bits S0..S15, then the nine results (R38). -/
def runTerms (snap : List Bool) (prog : List Term) : List Bool :=
  prog.foldl (runTerm snap) (List.replicate 25 false)

/-- The nine results among the working bits. -/
def permsOf (work : List Bool) : Perms where
  door := .ofFn fun d => work.getD (16 + d.num) false
  kneel := work.getD 20 false
  holdRelease := work.getD 21 false
  steerFree := work.getD 22 false
  levelDrive := work.getD 23 false
  heightRaised := work.getD 24 false

/-- The sixteen scratch bits among the working bits. -/
def scratchOf (work : List Bool) : BitVec 16 := BitVec.ofNat 16 (flags (work.take 16))

/-! ### Publications (R39, R40, R42) -/

/-- A consumer's answer to the withdrawal of one permission. -/
def onWithdrawal (was is : Bool) (f : State → State) (s : State) : State :=
  if was && !is then f s else s

/-- P_DOORn withdrawn (R81). -/
def withdrawDoor (d : Door) (s : State) : State :=
  if (s.dcu.get d).phase = .released then enterShut d s else s

/-- P_KNEEL withdrawn (R113). -/
def withdrawKneel (s : State) : State := if s.kns.state = .lowering then enterPaused s else s

/-- P_HOLD_RELEASE withdrawn (R59). -/
def withdrawHoldRelease (s : State) : State := if s.shc.state = .releasing then enterApplying s else s

/-- P_HEIGHT_RAISED withdrawn (R96). -/
def withdrawHeightRaised (s : State) : State := setHeightMode .normal s

/-- What the consumers do when the published permissions go from `old` to `new` (R42). P_STEER_FREE is a lock cause,
P_LEVEL_DRIVE is read by the levelling frame: neither acts here. -/
def consume (old new : Perms) (s : State) : State :=
  let t := Door.all.foldl (fun u d => onWithdrawal (old.door.get d) (new.door.get d) (withdrawDoor d) u) s
  let u := onWithdrawal old.kneel new.kneel withdrawKneel t
  let v := onWithdrawal old.holdRelease new.holdRelease withdrawHoldRelease u
  onWithdrawal old.heightRaised new.heightRaised withdrawHeightRaised v

/-- A publication (R39, R42). -/
def publishPerms (new : Perms) (scratch : BitVec 16) (s : State) : State :=
  let old := s.ciu.perms
  let t := s.withCiu { s.ciu with perms := new, scratch := scratch, pubNum := s.ciu.pubNum + 1 }
  if new = old then t else consume old new (raiseAttention .permissionChanged t)

/-- The floor withdrawal (R40): one publication for all the floors that fail at once (log entry 46). -/
def withdrawFloors (s : State) : State :=
  let new := s.ciu.perms.and s.floors
  if new = s.ciu.perms then s else publishPerms new s.ciu.scratch s

/-! ### The closing of an event: reactions -/

/-- The STR channel became TRIPPED, or RST became LOST, in the event that began in `s0` (R150). -/
def actuatorFailed (s0 s : State) : Bool :=
  (decide (s.pfu.chan.bridge.state = .tripped) && decide (s0.pfu.chan.bridge.state ≠ .tripped)) ||
  (!s.sa.image.rst.usable && s0.sa.image.rst.usable)

/-- All doors reached SHUT in the event that began in `s0` under a KNELT bus with autoRaise (R117; log entry 18). -/
def autoRaiseDue (s0 s : State) : Bool :=
  decide (s.pfs.mode = .run) && decide (s.kns.state = .knelt) && s.prm.kneel.autoRaise && s.allShut && !s0.allShut

/-- One round of reactions in the event that began in `s0`. Log entry 8. -/
def reactOnce (s0 s : State) : State :=
  let t := reabandonTouched s0 (tripArmed s)
  let u := if actuatorFailed s0 t then enterFaulted t else t
  let v := withdrawFloors u
  let w := if autoRaiseDue s0 v then enterRaising v else v
  steerReact s0.sju.state w

/-- Some ARMED channel has a selected source asserted (R173). -/
def State.tripDue (s : State) : Bool :=
  Chan.all.any fun k => decide ((s.pfu.chan.get k).state = .armed) && (s.tripSource k).isSome

/-- Rounds of reactions, until one leaves no trip due. -/
def reactions : Nat → State → State → State
  | 0, _, s => s
  | n + 1, s0, s =>
    let t := reactOnce s0 s
    if t.tripDue then reactions n s0 t else t

/-! ### The closing of an event: pass requests (R37) -/

/-- How many members of two lists differ. -/
def differing (xs ys : List Bool) : Nat := ((xs.zip ys).filter fun p => p.1 != p.2).length

/-- Some floor starts to hold (R41). -/
def floorRecovered (s0 s : State) : Bool :=
  ((s0.floors.members).zip s.floors.members).any fun p => !p.1 && p.2

/-- The doors that settled OPEN for the first time: each such settling requests a pass, though DOORn_SHUT is clear
before and after it (R84; log entry 49). One that settles SHUT changes its bit. -/
def settledOpen (s0 s : State) : Nat :=
  (Door.all.filter fun d =>
    decide ((s0.dcu.get d).phase = .unsettled) && decide ((s.dcu.get d).phase ≠ .unsettled) && !s.isShut d).length

/-- The requests that one event makes (R29, R32, R41, R84). Log entry 7. -/
def requestCount (s0 s : State) : Nat :=
  differing s0.stateBits s.stateBits + (decide (s0.conds ≠ s.conds)).toNat + (floorRecovered s0 s).toNat +
    settledOpen s0 s

/-- The start of a pass (R38). -/
def State.newPass (s : State) : Pass := ⟨s.inputs, s.prm.gates⟩

/-- `n` requests at the end of an event (R37). Log entries 6 and 7. -/
def requestPasses (n : Nat) (s : State) : State :=
  match n, s.ciu.pass with
  | 0, _ => s
  | _ + 1, some _ => s.withCiu { s.ciu with again := true }
  | m + 1, none => s.withCiu { s.ciu with pass := some s.newPass, again := decide (0 < m) }

/-- The passes that an event requests which reaches no block beyond a port. -/
def requestChanged (s0 s : State) : State := requestPasses (requestCount s0 s) s

/-- The closing of an event that can have asserted nothing for another block to take: the way out of FAULTED, which
every event at a block takes (R151; log entry 22), and the passes. -/
def settleRequests (s0 s : State) : State := requestChanged s0 (leaveFaulted s0.sju.state s)

/-- The closing of an event with `extra` requests of its own. -/
def finishWith (extra : Nat) (s0 s : State) : State :=
  let t := reactions Config.reactionRounds s0 s
  requestPasses (extra + requestCount s0 t) t

/-- The closing of an event that began in `s0`. -/
def finish (s0 s : State) : State := finishWith 0 s0 s

/-! ### The end of a pass (R39) -/

/-- The end of the running pass: its results, the floored publication, and idleness; a pending request starts the next
pass at the end of the event. -/
def endPass (p : Pass) (s : State) : State :=
  let work := runTerms p.snap p.program
  let results := permsOf work
  publishPerms (results.and s.floors) (scratchOf work)
    (s.withCiu { s.ciu with results := results, pass := none, again := false })

/-- PASS_END; nothing when no pass runs. -/
def passEnd (s : State) : State :=
  match s.ciu.pass with
  | none => settleRequests s s
  | some p => finishWith s.ciu.again.toNat s (endPass p s)

/-! ### Doubt latches (R30) and RUN entry (R26) -/

/-- The latch of slot `k` after a CLEAR DOUBT that names it (R28, R30). -/
def State.latchCleared (s : State) (k : Nat) : Bool :=
  s.ciu.latches.getLsbD k &&
    match s.slot? k with
    | none => true
    | some p => match p.signal with
      | none => true
      | some id => p.latchDoubt && decide ((s.sa.image.byId id).validity ≠ .fresh)

/-- CLEAR DOUBT on a set of slots (R30). -/
def clearDoubts (slots : Nat) (s : State) : State :=
  s.withCiu { s.ciu with
    latches := BitVec.ofNat 16 (flags ((List.range 16).map fun k =>
      if hasFlag slots k then s.latchCleared k else s.ciu.latches.getLsbD k)) }

/-- RUN entry: every latch is cleared and formed again on the present records (R26, R28). -/
def interlockRunEntry (s : State) : State :=
  s.withCiu { s.ciu with
    latches := BitVec.ofNat 16 (flags ((List.range 16).map fun k =>
      match s.slot? k with
      | none => false
      | some p => match p.signal with
        | none => false
        | some id => p.latchDoubt && decide ((s.sa.image.byId id).validity ≠ .fresh))) }

/-! ### Drive indications (R33) -/

/-- DRIVE_INDICATION_EXPIRY. -/
def indicationsEnd (s : State) : State :=
  match s.cp.driveLeft with
  | none => s
  | some _ => s.withCp { s.cp with retarder := false, engaged := false, driveLeft := none }

/-- An accepted DRIVE STATUS. -/
def takeIndications (retarder engaged : Bool) (s : State) : State :=
  s.withCp { s.cp with retarder := retarder, engaged := engaged, driveLeft := some Config.driveValidity }

end Sys2Proof.Machine
end

