-- ==== Sys2Proof/Machine/Profile.lean ====
section
/-! DEFINITION. The profile of the Profile and Fault Store (section 11.1 of spec/11_start_up_profile_and_faults.md): the
places of the parameters, what the blocks read there, the check values, and validation. -/

namespace Sys2Proof.Machine

/-! ### Sections (R195) -/

/-- The lengths in bytes of sections 0..10. -/
def sectionLengths : List Nat := [210, 128, 386, 6, 126, 34, 54, 162, 0, 12, 12]

def sectionLength (sec : Nat) : Nat := sectionLengths.getD sec 0

/-- The address of a section's first byte. -/
def sectionBase (sec : Nat) : Nat := (sectionLengths.take sec).foldl (· + ·) 0

/-- The bytes of the whole profile. -/
def profileSize : Nat := 1130

/-- The stored bytes of one section. -/
def sectionBytes (m : Memory) (sec : Nat) : List Byte := m.readBytes (sectionBase sec) (sectionLength sec)

/-- The check value of the whole profile. -/
def profileCheck (m : Memory) : BitVec 16 := crc16 (m.readBytes 0 profileSize)

/-- The check value of one section. -/
def sectionCheck (m : Memory) (sec : Nat) : BitVec 16 := crc16 (sectionBytes m sec)

def sectionChecks (m : Memory) : List (BitVec 16) := (List.range 11).map (sectionCheck m)

/-- Parameter `k` of a section as the unsigned number that its two bytes spell. -/
def rawParam (m : Memory) (sec k : Nat) : Nat :=
  (m.read (sectionBase sec + 2 * k)).toNat * 256 + (m.read (sectionBase sec + 2 * k + 1)).toNat

/-- Parameter `k` of a section in two's complement. -/
def param (m : Memory) (sec k : Nat) : Int := signed16 (rawParam m sec k)

/-! ### What the blocks read -/

/-- An analogue input's four numbers. -/
def readBand (m : Memory) (input : Nat) : Band where
  rawLow := param m 0 (4 * input)
  rawHigh := param m 0 (4 * input + 1)
  offset := param m 0 (4 * input + 2)
  scale := param m 0 (4 * input + 3)

/-- A wheel-speed input's four numbers: its raw band limits are unsigned. -/
def readWheelBand (m : Memory) (input : Nat) : Band :=
  { readBand m input with rawLow := rawParam m 0 (4 * input), rawHigh := rawParam m 0 (4 * input + 1) }

def readSignals (m : Memory) : SignalParams where
  hgt := .ofFn fun i => readBand m i.num
  prs := .ofFn fun i => readBand m (6 + i.num)
  brp := .ofFn fun x => readBand m (12 + x.num)
  art1 := readBand m 15
  art2 := readBand m 16
  rst1 := readBand m 17
  rst2 := readBand m 18
  wsp := .ofFn fun w => readWheelBand m (19 + w.num)
  vsup := readBand m 23
  artTol := param m 0 96
  rstTol := param m 0 97
  aeff := .ofFn fun x => param m 0 (98 + x.num)
  unsprung := .ofFn fun x => param m 0 (101 + x.num)
  vsupLow := param m 0 104

def readSlot (m : Memory) (k : Nat) : SlotParams where
  signal := if param m 1 (4 * k) = 255 then none else some (param m 1 (4 * k)).toNat
  threshold := param m 1 (4 * k + 1)
  halfWidth := param m 1 (4 * k + 2)
  latchDoubt := decide (param m 1 (4 * k + 3) = 1)

def readTerm (m : Memory) (k : Nat) : Term where
  op := (param m 2 (1 + 4 * k)).toNat
  a := (param m 2 (2 + 4 * k)).toNat
  b := (param m 2 (3 + 4 * k)).toNat
  target := (param m 2 (4 + 4 * k)).toNat

/-- The counted terms (R36). -/
def readGates (m : Memory) : List Term := (List.range (param m 2 0).toNat).map (readTerm m)

/-- Entries 2, 3 and 4 of the mask table, for k = 0, 1, 2 (R98). -/
def readMask (m : Memory) (k : Nat) : Corners := BitVec.ofNat 6 (rawParam m 3 k)

def readLevel (m : Memory) : LevelParams where
  coupling := .ofFn fun i => .ofFn fun j => param m 4 (6 * i.num + j.num)
  kfill := .ofFn fun i => param m 4 (36 + i.num)
  kvent := .ofFn fun i => param m 4 (42 + i.num)
  dbStand := param m 4 48
  dbDrive := param m 4 49
  minPulse := param m 4 50
  maxWidthStand := param m 4 51
  maxWidthDrive := param m 4 52
  stagger := param m 4 53
  raiseHeight := param m 4 54

def readKneel (m : Memory) : KneelParams where
  curbSide := if param m 4 55 = 0 then .left else .right
  kneelDepth := param m 4 56
  kneelTol := param m 4 57
  rideTol := param m 4 58
  lowerTime := (param m 4 59).toNat
  raiseTime := (param m 4 60).toNat
  twistLimit := param m 4 61
  autoRaise := decide (param m 4 62 = 1)

def readBrake (m : Memory) : BrakeParams where
  ladenRef := .ofFn fun x => param m 5 x.num
  rMin := .ofFn fun x => param m 5 (3 + x.num)
  pMax := .ofFn fun x => param m 5 (6 + x.num)
  dbBrake := param m 5 9
  kin := .ofFn fun x => param m 5 (10 + x.num)
  kex := .ofFn fun x => param m 5 (13 + x.num)
  minPulse := param m 5 16

def readSteer (m : Memory) : SteerParams where
  lockSpeed := param m 6 0
  table := (List.range 8).map fun k => (param m 6 (1 + k), param m 6 (9 + k))
  polarity := param m 6 17
  maxAngle := param m 6 18
  rate := param m 6 19
  kp := param m 6 20
  dMax := param m 6 21
  dBase := param m 6 22
  kj := param m 6 23
  dRet := param m 6 24
  angleLimit := param m 6 25
  dLim := param m 6 26

def readSel (m : Memory) (k : Nat) : TripSel where
  vsup := decide (param m 7 (1 + 4 * k) = 1)
  diag := decide (param m 7 (2 + 4 * k) = 1)
  starved := decide (param m 7 (3 + 4 * k) = 1)
  index := if param m 7 (4 + 4 * k) = 255 then none else some (param m 7 (4 + 4 * k)).toNat

def readFrames (m : Memory) : FrameParams where
  deadTime := (param m 7 0).toNat
  sel := .ofFn fun k => readSel m k.num

def readHold (m : Memory) : HoldParams where
  floor := .ofFn fun x => param m 9 x.num
  entrySpeed := param m 9 3
  tol := param m 9 4
  ramp := param m 9 5

def readPorts (m : Memory) : PortParams where
  silence := .ofFn fun p => (param m 10 p.num).toNat
  subscription := .ofFn fun p => BitVec.ofNat 8 (rawParam m 10 (3 + p.num))

/-- Every parameter that the stored bytes give (R198). -/
def readParams (m : Memory) : Params where
  signals := readSignals m
  slots := (List.range 16).map (readSlot m)
  gates := readGates m
  level := readLevel m
  kneel := readKneel m
  brake := readBrake m
  steer := readSteer m
  frames := readFrames m
  hold := readHold m
  ports := readPorts m

/-! ### Validation (R197) -/

def inRange (lo hi x : Int) : Bool := decide (lo ≤ x) && decide (x ≤ hi)

/-- The band of an input with the raw range 0..top (R197). -/
def Band.valid (top : Int) (b : Band) : Bool :=
  decide (b.rawLow ≤ b.rawHigh) && inRange 0 top b.rawLow && inRange 0 top b.rawHigh &&
    inRange 0 4095 b.offset && inRange (-8192) 8192 b.scale && decide (b.scale ≠ 0)

def SignalParams.valid (p : SignalParams) : Bool :=
  p.hgt.toList.all (Band.valid 4095) && p.prs.toList.all (Band.valid 4095) && p.brp.toList.all (Band.valid 4095) &&
    [p.art1, p.art2, p.rst1, p.rst2, p.vsup].all (Band.valid 4095) && p.wsp.toList.all (Band.valid 65535) &&
    inRange 0 2000 p.artTol && inRange 0 500 p.rstTol && p.aeff.toList.all (inRange 100 1500) &&
    p.unsprung.toList.all (inRange 0 3000) && inRange 0 6000 p.vsupLow

/-- R26, on the stored numbers of slot `k`. -/
def slotValid (m : Memory) (k : Nat) : Bool :=
  (inRange 0 27 (param m 1 (4 * k)) || decide (param m 1 (4 * k) = 255)) &&
    inRange (-20000) 20000 (param m 1 (4 * k + 1)) && inRange 0 2000 (param m 1 (4 * k + 2)) &&
    inRange 0 1 (param m 1 (4 * k + 3))

/-- R36, on the stored numbers of term `k`. -/
def termValid (m : Memory) (k : Nat) : Bool :=
  inRange 0 7 (param m 2 (1 + 4 * k)) && inRange 0 112 (param m 2 (2 + 4 * k)) &&
    inRange 0 112 (param m 2 (3 + 4 * k)) && inRange 88 112 (param m 2 (4 + 4 * k))

def gatesValid (m : Memory) : Bool :=
  inRange 0 48 (param m 2 0) && (List.range (param m 2 0).toNat).all (termValid m)

/-- R102: the three sets name corners 0..5 only. -/
def masksValid (m : Memory) : Bool := (List.range 3).all fun k => decide (rawParam m 3 k ≤ 63)

/-- R102. -/
def LevelParams.valid (p : LevelParams) : Bool :=
  p.coupling.toList.all (fun row => row.toList.all (inRange (-2048) 2047)) &&
    p.kfill.toList.all (inRange 1 255) && p.kvent.toList.all (inRange 1 255) && inRange 10 300 p.dbStand &&
    inRange 10 300 p.dbDrive && inRange 5 100 p.minPulse && inRange p.minPulse 1000 p.maxWidthStand &&
    inRange p.minPulse 1000 p.maxWidthDrive && inRange 0 150 p.stagger && inRange 0 1000 p.raiseHeight

/-- R107, on the stored numbers. -/
def kneelValid (m : Memory) : Bool :=
  inRange 0 1 (param m 4 55) && inRange (-1200) 0 (param m 4 56) && inRange 20 200 (param m 4 57) &&
    inRange 20 200 (param m 4 58) && inRange 3000 20000 (param m 4 59) && inRange 3000 20000 (param m 4 60) &&
    inRange 50 1000 (param m 4 61) && inRange 0 1 (param m 4 62)

/-- R124. -/
def BrakeParams.valid (p : BrakeParams) : Bool :=
  p.ladenRef.toList.all (inRange 2000 20000) && p.rMin.toList.all (inRange 205 1024) &&
    p.pMax.toList.all (inRange 300 1000) && inRange 5 50 p.dbBrake && p.kin.toList.all (inRange 1 255) &&
    p.kex.toList.all (inRange 1 255) && inRange 5 100 p.minPulse

/-- Strictly ascending. -/
def ascending : List Int → Bool
  | x :: y :: zs => decide (x < y) && ascending (y :: zs)
  | _ => true

/-- R144, with the cross check against deadTime. -/
def SteerParams.valid (deadTime : Int) (p : SteerParams) : Bool :=
  inRange 500 6000 p.lockSpeed && p.table.all (fun e => inRange 0 15000 e.1 && inRange 0 2048 e.2) &&
    ascending (p.table.map (·.1)) && (decide (p.polarity = 1) || decide (p.polarity = -1)) &&
    inRange 0 1200 p.maxAngle && inRange 1 50 p.rate && inRange 1 1024 p.kp && inRange 0 1000 p.dMax &&
    decide (p.dMax ≤ 1000 - 2 * deadTime) && inRange 0 1000 p.dBase && inRange 0 2048 p.kj && inRange 0 1000 p.dRet &&
    inRange 0 5500 p.angleLimit && inRange 0 1000 p.dLim

/-- R164, on the stored numbers of channel `k`. -/
def selValid (m : Memory) (k : Nat) : Bool :=
  inRange 0 1 (param m 7 (1 + 4 * k)) && inRange 0 1 (param m 7 (2 + 4 * k)) && inRange 0 1 (param m 7 (3 + 4 * k)) &&
    (inRange 0 82 (param m 7 (4 + 4 * k)) || inRange 87 112 (param m 7 (4 + 4 * k)) ||
      decide (param m 7 (4 + 4 * k) = 255))

def framesValid (m : Memory) : Bool := inRange 0 50 (param m 7 0) && (List.range 20).all (selValid m)

/-- R48, with the cross check against p_max_x. -/
def HoldParams.valid (pMax : PerAxle Int) (p : HoldParams) : Bool :=
  Axle.all.all (fun x => inRange 0 1000 (p.floor.get x) && decide (p.floor.get x ≤ pMax.get x)) &&
    Axle.all.any (fun x => decide (0 < p.floor.get x)) && inRange 100 500 p.entrySpeed && inRange 10 100 p.tol &&
    inRange 10 200 p.ramp

/-- R197, on the stored numbers. -/
def portsValid (m : Memory) : Bool :=
  (List.range 3).all fun k => inRange 50 1000 (param m 10 k) && inRange 0 255 (param m 10 (3 + k))

/-- The sections' verdicts in ID order. -/
def sectionVerdicts (m : Memory) : List Bool :=
  [ (readSignals m).valid, (List.range 16).all (slotValid m), gatesValid m, masksValid m,
    (readLevel m).valid && kneelValid m, (readBrake m).valid, (readSteer m).valid (param m 7 0), framesValid m, true,
    (readHold m).valid (readBrake m).pMax, portsValid m ]

/-- The lowest-numbered section that fails validation (R197). -/
def failingSection (m : Memory) : Option Nat := (sectionVerdicts m).findIdx? (!·)

end Sys2Proof.Machine
end

