-- ==== Sys2Proof/Machine/Mode.lean ====
section
/-! DEFINITION. RUN entry, SAFE entry and the integrity check (R194, R198, R199), and what every block does in them. -/

namespace Sys2Proof.Machine

/-! ### RUN entry (R198) -/

/-- Each port that is not silent restarts its timer at its loaded silence time (R190). -/
def restartSilence (s : State) : State :=
  s.withCp { s.cp with
    port := .ofFn fun p =>
      let q := s.cp.port.get p
      if q.silent then q else { q with silence := some (s.prm.ports.silence.get p) } }

/-- The parameters of every section are loaded and the check values recorded; the integrity timer starts. -/
def loadProfile (s : State) : State :=
  let m := s.pfs.profile
  let t := (s.withPrm (readParams m)).withLoaded true
  t.withPfs { t.pfs with
    recorded := profileCheck m, recordedSections := sectionChecks m, integrity := some Config.integrityTime }

/-- RUN entry, before the closing of the event. Log entry 23. -/
def runEntry (s : State) : State :=
  let m := s.pfs.profile
  let t := interlockRunEntry (acquisitionRunEntry (setMode .run (loadProfile s)))
  let u := updateRatios (levelRunEntry (readMask m 0) (readMask m 1) (readMask m 2) t)
  restartSilence (decideIdle (autoApply (doorEnterRun u)))

/-! ### SAFE entry (R194) -/

/-- SAFE entry, before the closing of the event. Log entry 35. -/
def safeEntry (s : State) : State :=
  let t := setMode .safe (s.withPfs { s.pfs with integrity := none })
  doorLeaveRun (kneelSafeEntry (enterFaulted (safeTrip (brakeSafeEntry (holdSafeEntry t)))))

/-! ### Integrity (R199) -/

/-- The lowest-numbered section whose check value differs from the recorded one. Log entry 37. -/
def State.brokenSection (s : State) : Nat :=
  (((sectionChecks s.pfs.profile).zip s.pfs.recordedSections).findIdx? fun p => decide (p.1 ≠ p.2)).getD 0

/-- The stored bytes have the check value recorded at RUN entry. -/
def State.integral (s : State) : Bool := decide (profileCheck s.pfs.profile = s.pfs.recorded)

/-- INTEGRITY_TIMER_EXPIRY. -/
def integrityEnd (s : State) : State :=
  match s.pfs.integrity with
  | none => settleRequests s s
  | some _ =>
    if s.pfs.mode = .run then
      if s.integral then settleRequests s (s.withPfs { s.pfs with integrity := some Config.integrityTime })
      else finish s (safeEntry (raiseFault .profileIntegrity s.brokenSection s))
    else settleRequests s (s.withPfs { s.pfs with integrity := none })

end Sys2Proof.Machine
end

