-- ==== Sys2Proof/Machine/Replies.lean ====
section
/-! DEFINITION. The reply payloads of the commands (R183, R185), as functions of the state that the command leaves. The
items stand in the order of the command's rule. Log entry 25. -/

namespace Sys2Proof.Machine

/-- One number of two bytes for each corner. -/
def cornerNumbers (v : PerCorner Int) : List Byte := (v.toList.map byte2).flatten

/-- One number of two bytes for each axle. -/
def axleNumbers (v : PerAxle Int) : List Byte := (v.toList.map byte2).flatten

/-- A set of corners. -/
def cornerField (m : Corners) : List Byte := byte1 m.toNat

/-- A counter of 16 bits. -/
def counter (n : BitVec 16) : List Byte := byte2 n.toNat

/-- A set of at most eight members. -/
def smallSet (members : List Bool) : List Byte := byte1 (flags members)

/-- A set of nine to sixteen members. -/
def wideSet (members : List Bool) : List Byte := byte2 (flags members)

/-! ### READ STATUS (R188, R178) -/

/-- A channel's value, in the form of its kind. -/
def Values.code (v : Values) : Chan → List Byte
  | .inlet x => byte2 (v.inlet.get x)
  | .exhaust x => byte2 (v.exhaust.get x)
  | .joint => byte2 v.joint
  | .fill i => byte2 (v.fill.get i).delay ++ byte2 (v.fill.get i).width
  | .vent i => byte2 (v.vent.get i).delay ++ byte2 (v.vent.get i).width
  | .bridge => byte2 v.bridge

/-- A trip cause, 255 for none. -/
def causeCode : Option TripCause → Nat
  | none => 255
  | some c => c.code

/-- One channel record of R178. -/
def channelReport (s : State) (k : Chan) : List Byte :=
  let c := s.pfu.chan.get k
  byte1 c.state.code ++ s.pfu.staged.code k ++ s.pfu.active.code k ++
    (if k.group = .lvl then yesNo s.pfu.owed else []) ++ smallSet (s.selects k).members ++
    smallSet (s.assertedMembers k) ++ byte1 (causeCode c.cause) ++ byte1 c.trips

/-- The group operand's part of READ STATUS (R178). The starvation timer's time left takes two bytes in every group (log
entry 25). -/
def groupReport (g : FrameGroup) (s : State) : List Byte :=
  let r := s.pfu.group.get g
  yesNo r.commit ++ counter r.boundary ++ yesNo r.starved ++ byte2 (timeLeft r.starve) ++
    (g.channels.map (channelReport s)).flatten ++
    (if g = .str then byte1 s.prm.frames.deadTime ++ byte2 s.bridgeMagnitude else []) ++ yesNo s.loaded

/-- READ STATUS without an operand (R188). -/
def statusReport (s : State) : List Byte :=
  smallSet s.inhibitCauses.members ++ byte1 s.pfs.cause.code ++
    (PortId.all.map fun p => yesNo (s.cp.port.get p).silent ++ byte2 (timeLeft (s.cp.port.get p).silence)).flatten ++
    yesNo s.cp.retarder ++ yesNo s.cp.engaged ++ byte1 (timeLeft s.cp.driveLeft) ++
    byte2 s.sa.portSpeed ++ yesNo s.sa.portSpeedLeft.isSome

/-- The group that an operand names (R187). -/
def groupOf : Nat → FrameGroup
  | 0 => .brk
  | 1 => .lvl
  | _ => .str

/-! ### READ IMAGE (R23) -/

/-- The adjusted first ID and count of a request. -/
def imageRange (first count : Nat) : Nat × Nat :=
  let f := min first 27
  (f, min (min 6 (max 1 count)) (28 - f))

/-- One record of the reply. -/
def recordReport (id : Nat) (r : Rec) : List Byte :=
  byte1 id ++ byte2 r.value ++ byte1 r.validity.code ++ byte2 r.age ++ byte1 r.source.code ++ byte2 r.last

def imageReport (range : Nat × Nat) (s : State) : List Byte :=
  ((List.range range.2).map fun k => recordReport (range.1 + k) (s.sa.image.byId (range.1 + k))).flatten

/-! ### READ FAULTS (R202) -/

def faultReport (e : FaultEntry) : List Byte :=
  byte1 e.kind.code ++ byte1 e.source ++ byte4 e.first ++ byte1 e.count ++ byte1 (if e.active then 0 else 1)

def faultsReport (s : State) : List Byte :=
  yesNo s.pfs.overflow ++ byte1 s.pfs.faults.length ++ (s.pfs.faults.map faultReport).flatten

/-! ### READ PERMISSIONS (R44) -/

def permissionsReport (s : State) : List Byte :=
  wideSet s.ciu.perms.members ++ wideSet s.ciu.results.members ++ wideSet s.floors.members ++ counter s.ciu.scratch ++
    (s.conds.map fun c => smallSet c.bits).flatten ++ counter s.ciu.latches ++ byte3 (flags s.stateBits) ++
    yesNo s.ciu.pass.isSome ++ yesNo s.ciu.again ++ counter s.ciu.pubNum

/-! ### READ BRAKE (R140) -/

def AbandonCause.members (c : AbandonCause) : List Bool := [c.brpLost, c.inlet, c.exhaust]

/-- One axle's part of READ BRAKE (R140). Of "the SERVICE and INTERVENTION pressures and their time left" both pressures
are sent first, then both times left (log entry 25). -/
def axleReport (s : State) (x : Axle) : List Byte :=
  let b := s.bdu
  byte2 (b.service.pressure.get x) ++ byte2 (b.intervention.pressure.get x) ++ byte1 b.service.left ++
    byte1 b.intervention.left ++ byte2 (b.ratio.get x) ++ yesNo s.kns.freeze ++ byte2 (s.demand x) ++
    byte2 (s.scaledDemand x) ++ byte2 (s.shc.floor.get x) ++ byte2 (s.setpoint x) ++ yesNo (s.saturated x) ++
    byte2 (s.prm.brake.pMax.get x) ++ byte2 (s.sa.image.brp.get x).value ++
    byte1 (s.sa.image.brp.get x).validity.code ++ byte2 (b.last.get x).error ++ byte2 (b.last.get x).inlet ++
    byte2 (b.last.get x).exhaust ++ yesNo (s.abandoned x) ++ smallSet (b.cause.get x).members ++
    yesNo (s.backupEnergized x) ++ byte2 (timeLeft (b.deviation.get x)) ++ yesNo (b.deviating.get x)

def brakeReport (s : State) : List Byte :=
  (Axle.all.map (axleReport s)).flatten ++ counter s.bdu.compNum ++ yesNo s.loaded

/-! ### READ LEVEL (R103) -/

/-- A staged width with its delay, as the frame record holds it. -/
def pulseReport (p : Pulse) : List Byte := byte2 p.width ++ byte2 p.delay

def frameReport (r : FrameRecord) : List Byte :=
  counter r.num ++ byte1 r.speed.code ++ cornerField r.actMask ++ byte2 r.deadband ++ byte2 r.limit ++
    cornerNumbers r.error ++ cornerNumbers r.demand ++ cornerField r.pauseSet ++ yesNo r.levelDrive ++
    (r.fill.toList.map pulseReport).flatten ++ (r.vent.toList.map pulseReport).flatten

def rideTargets (s : State) : PerCorner Int := .ofFn s.rideTarget

/-- Height mode, targets and ride targets: the reply of HEIGHT MODE (R95) and the head of READ LEVEL. -/
def heightReport (s : State) : List Byte :=
  byte1 s.lvu.heightMode.code ++ cornerNumbers s.lvu.target ++ cornerNumbers (rideTargets s)

/-- READ LEVEL. Whether the LEVEL and MASKS sections are loaded is one item of one byte, since RUN entry loads both (log
entry 25). -/
def levelReport (s : State) : List Byte :=
  heightReport s ++ ((List.range 12).map fun e => cornerField (s.maskEntry e)).flatten ++ yesNo s.loaded ++
    frameReport s.lvu.record

/-! ### READ STEER (R159) -/

/-- c and τ are sent as they stand, the zeros that R146 and R150 set between two updates too (log entry 52). -/
def steerReport (s : State) : List Byte :=
  let j := s.sju
  byte1 j.state.code ++ smallSet s.lockCauses.members ++ byte2 j.angle ++ byte2 j.target ++ byte2 j.gain ++
    byte2 s.sa.image.rst.value ++ byte1 s.sa.image.rst.validity.code ++ byte2 j.err ++ byte2 j.duty ++
    byte2 (timeLeft j.centring) ++ byte1 (timeLeft j.settle) ++ byte2 (timeLeft j.tracking) ++
    yesNo s.steerEnergized ++ yesNo s.steerEnergized ++
    byte2 j.damping.demand ++ byte2 j.damping.base ++ byte2 j.damping.rate ++ byte2 j.damping.retarder ++
    byte2 j.damping.angle ++ byte2 j.damping.joint ++ yesNo j.centringTimeout ++ yesNo j.trackingError ++
    counter j.steerNum ++ counter j.jointNum ++ yesNo s.loaded

/-! ### The commands of the chassis functions -/

/-- HOLD APPLY (R49); `block` is the position in the list of R49: none 0, VSPD_LOST 1, VSPD_ABOVE_ENTRY 2. -/
def holdApplyReport (block : Nat) (s : State) : List Byte :=
  byte1 s.shc.state.code ++ yesNo s.shc.pendingApply ++ byte1 block

/-- HOLD RELEASE (R57). Its result item carries the code of R184 (log entry 25). -/
def holdReleaseReport (r : Result) (blocks : List Bool) (s : State) : List Byte :=
  byte1 r.code ++ byte1 s.shc.state.code ++ smallSet blocks ++ smallSet s.inhibitCauses.members

/-- KNEEL, HALT and RAISE (R108). "The pause set of the last LVL frame" is the set that the Kneel Sequencer holds, which
an entry to another kneel state has emptied since the frame's boundary (log entry 56). -/
def kneelReport (blocks : List Bool) (s : State) : List Byte :=
  byte1 s.kns.state.code ++ byte1 s.kns.kind.code ++ cornerField s.lvu.kneelSet ++
    byte2 ((max (timeLeft s.kns.lowering) (timeLeft s.kns.raising) : Nat) : Int) ++ yesNo s.kns.freeze ++
    cornerField s.kns.pauseSet ++ smallSet blocks

/-- DOOR (R71). -/
def doorReport (d : Door) (blocks : List Bool) (s : State) : List Byte :=
  let r := s.dcu.get d
  byte1 r.phase.code ++ byte1 r.closed.code ++ byte1 (if r.pressed then 0 else 1) ++ yesNo (s.releaseOutput d) ++
    yesNo r.forced ++ byte2 (timeLeft r.phaseTimer) ++ byte1 (timeLeft r.proofTimer) ++ smallSet blocks

/-- BRAKE DEMAND (R126). -/
def demandReport (src : DemandSource) (s : State) : List Byte :=
  let d := s.bdu.demandOf src
  (d.pressure.toList.map fun n : Nat => byte2 (n : Int)).flatten ++ byte1 d.left ++ axleNumbers (.ofFn s.setpoint) ++
    (Axle.all.map fun x => yesNo (s.saturated x)).flatten ++ (Axle.all.map fun x => yesNo (s.abandoned x)).flatten

/-- DRIVE STATUS (R189). -/
def driveReport (s : State) : List Byte :=
  byte2 s.sa.portSpeed ++ yesNo s.sa.portSpeedLeft.isSome ++ yesNo s.cp.retarder ++ yesNo s.cp.engaged

/-- SET MASK (R99). -/
def maskReport (stored returned : Corners) (s : State) : List Byte :=
  cornerField stored ++ cornerField s.lvu.kneelSet ++ cornerField s.lvu.levelSet ++ cornerField s.lvu.raiseSet ++
    cornerField s.lvu.driveSet ++ cornerField returned

/-- REARM (R174): each channel of the set with its state after the command and its sources asserted at the command. -/
def rearmReport (set : List Chan) (before s : State) : List Byte :=
  (set.map fun k => byte1 (s.pfu.chan.get k).state.code ++ smallSet (before.assertedMembers k)).flatten

/-- CLEAR FAULT (R202). -/
def clearReport (removed : Nat) (s : State) : List Byte :=
  byte1 removed ++ byte1 s.pfs.faults.length ++ yesNo s.pfs.overflow

/-- The check value and the confirmations (R196). -/
def checkReport (s : State) : List Byte :=
  counter (profileCheck s.pfs.profile) ++ yesNo s.pfs.confirmF ++ yesNo s.pfs.confirmB

end Sys2Proof.Machine
end

