-- ==== Sys2Proof/Machine/Ports.lean ====
section
/-! DEFINITION. The Controller Ports (spec/10_controller_ports_and_commands.md): frames, the checks of R184, what each
owner makes of a command that passes them, replies, silence and transactions. Log entries 25 to 27 and 34. -/

namespace Sys2Proof.Machine

/-! ### Frames (R181) -/

/-- What a transaction delivered: no whole byte, a frame with a frame error (and its first byte), or a valid frame. -/
inductive Frame where
  | nothing
  | bad (first : Byte)
  | valid (cmd : Byte) (payload : List Byte)
  deriving DecidableEq, Repr

/-- The frame that the bytes of a transaction make; bytes after CHK are ignored (R180, R181). -/
def frameOf : List Byte → Frame
  | [] => .nothing
  | [b] => .bad b
  | cmd :: len :: rest =>
    let payload := rest.take len.toNat
    if 48 < len.toNat ∨ rest.length < len.toNat + 1 then .bad cmd
    else if rest.getD len.toNat 0#8 = crc8 (cmd :: len :: payload) then .valid cmd payload
    else .bad cmd

/-! ### Commands, lengths, ports and modes (R186) -/

inductive Cmd where
  | nop | readStatus | readImage | readAttention | readFaults | readPermissions | readBrake | readLevel | readSteer
  | brakeDemand | hold | heightMode | kneel | door | driveStatus | setMask | rearm | clearFault | clearDoubt | enterSafe
  | profileWrite | profileConfirm | profileRead
  deriving DecidableEq, Repr

/-- The command codes of R186. -/
def cmdOf (code : Byte) : Option Cmd :=
  match code.toNat with
  | 0x00 => some .nop | 0x01 => some .readStatus | 0x02 => some .readImage | 0x03 => some .readAttention
  | 0x04 => some .readFaults | 0x05 => some .readPermissions | 0x06 => some .readBrake | 0x07 => some .readLevel
  | 0x08 => some .readSteer | 0x10 => some .brakeDemand | 0x11 => some .hold | 0x12 => some .heightMode
  | 0x13 => some .kneel | 0x14 => some .door | 0x15 => some .driveStatus | 0x16 => some .setMask
  | 0x17 => some .rearm | 0x18 => some .clearFault | 0x19 => some .clearDoubt | 0x1A => some .enterSafe
  | 0x20 => some .profileWrite | 0x21 => some .profileConfirm | 0x22 => some .profileRead
  | _ => none

/-- Column LEN. -/
def lengthAllowed (c : Cmd) (len : Nat) : Bool :=
  match c with
  | .nop | .readAttention | .readFaults | .readPermissions | .readBrake | .readLevel | .readSteer | .enterSafe =>
    decide (len = 0)
  | .readStatus => decide (len ≤ 1)
  | .hold | .heightMode => decide (len = 1)
  | .readImage | .kneel | .door | .clearFault | .clearDoubt | .profileConfirm => decide (len = 2)
  | .driveStatus | .setMask => decide (len = 3)
  | .rearm | .profileRead => decide (len = 4)
  | .brakeDemand => decide (len = 8)
  | .profileWrite => decide (3 ≤ len) && decide (len ≤ 48)

/-- Column Ports. -/
def portAllowed (c : Cmd) (p : PortId) : Bool :=
  match c with
  | .nop | .readStatus | .readImage | .readAttention | .readFaults | .readPermissions | .readBrake | .readLevel
  | .readSteer | .rearm | .profileRead => true
  | .brakeDemand | .enterSafe => decide (p ≠ .b)
  | .hold | .kneel | .setMask | .clearFault | .clearDoubt | .profileWrite | .profileConfirm => decide (p ≠ .r)
  | .heightMode => decide (p = .f)
  | .door => decide (p = .b)
  | .driveStatus => decide (p = .r)

/-- The mode columns. -/
def modeAllowed (c : Cmd) (m : Mode) : Bool :=
  match c with
  | .nop | .readStatus | .readImage | .readAttention | .readFaults | .readPermissions | .readBrake | .readLevel
  | .readSteer | .profileRead => true
  | .brakeDemand | .hold | .heightMode | .kneel | .door | .driveStatus | .setMask | .rearm | .clearFault
  | .clearDoubt => decide (m = .run)
  | .enterSafe => decide (m ≠ .safe)
  | .profileWrite | .profileConfirm => decide (m = .config)

/-- Check 6: the operation, kind or group operand is one that the command defines (R187). -/
def operandAllowed (c : Cmd) (payload : List Byte) : Bool :=
  match c with
  | .hold | .heightMode | .door => decide (byteAt payload 0 ≤ 1)
  | .kneel => decide (byteAt payload 0 ≤ 2) && (decide (byteAt payload 0 ≠ 0) || decide (byteAt payload 1 ≤ 1))
  | .rearm => decide (byteAt payload 0 ≤ 2)
  | .readStatus => decide (payload.length = 0) || decide (byteAt payload 0 ≤ 2)
  | .nop | .readImage | .readAttention | .readFaults | .readPermissions | .readBrake | .readLevel | .readSteer
  | .brakeDemand | .driveStatus | .setMask | .clearFault | .clearDoubt | .enterSafe | .profileWrite | .profileConfirm
  | .profileRead => true

/-- Check 7: the port may issue that operation or group (R187). -/
def formAllowed (c : Cmd) (p : PortId) (payload : List Byte) : Bool :=
  match c with
  | .hold => decide (byteAt payload 0 = 0) || decide (p = .f)
  | .kneel => decide (byteAt payload 0 = 2) || decide (p = .b)
  | .rearm => match byteAt payload 0 with
    | 0 => decide (p = .f)
    | 1 => decide (p ≠ .r)
    | _ => decide (p ≠ .b)
  | .heightMode | .door | .nop | .readStatus | .readImage | .readAttention | .readFaults | .readPermissions
  | .readBrake | .readLevel | .readSteer | .brakeDemand | .driveStatus | .setMask | .clearFault | .clearDoubt
  | .enterSafe | .profileWrite | .profileConfirm | .profileRead => true

/-- Checks 3 to 7 of R184: the result of the first that fails. -/
def refusal (c : Cmd) (p : PortId) (m : Mode) (payload : List Byte) : Option Result :=
  if lengthAllowed c payload.length = false then some .refusedRange
  else if portAllowed c p = false then some .refusedAuthority
  else if modeAllowed c m = false then some .refusedMode
  else if operandAllowed c payload = false then some .refusedRange
  else if formAllowed c p payload = false then some .refusedAuthority
  else none

/-! ### What an owner makes of a command -/

/-- How the event is closed. `port`: the frame changes no state outside the port (R184, R188, R192). `quiet`: the owner
acts, and no reaction to it is possible. `full`: with every reaction, and `extra` requests of its own. -/
inductive Closing where
  | port
  | quiet
  | full (extra : Nat)
  deriving DecidableEq, Repr

/-- The owner's answer: the state that the command leaves, the result, and the payload as a function of the state at
the end of the event (R182). -/
structure Handled where
  state : State
  result : Result
  payload : State → List Byte
  closing : Closing

/-- An answer that changes nothing outside the port. -/
def Handled.read (s : State) (r : Result) (payload : State → List Byte) : Handled := ⟨s, r, payload, .port⟩

/-- A refusal without a payload. -/
def Handled.refuse (s : State) (r : Result) : Handled := ⟨s, r, fun _ => [], .port⟩

/-- An answer with an effect to which no block reacts. -/
def Handled.store (s : State) (r : Result) (payload : State → List Byte) : Handled := ⟨s, r, payload, .quiet⟩

/-- An answer with an effect. -/
def Handled.act (s : State) (r : Result) (payload : State → List Byte) : Handled := ⟨s, r, payload, .full 0⟩

/-- READ STATUS (R188). -/
def handleReadStatus (payload : List Byte) (s : State) : Handled :=
  if payload.length = 0 then .read s .done statusReport
  else .read s .done fun t => statusReport t ++ groupReport (groupOf (byteAt payload 0)) t

/-- READ IMAGE (R23). -/
def handleReadImage (payload : List Byte) (s : State) : Handled :=
  let first := byteAt payload 0
  let count := byteAt payload 1
  let r := imageRange first count
  .read s (if r = (first, count) then .done else .clamped) (imageReport r)

/-- READ ATTENTION (R192). -/
def handleReadAttention (p : PortId) (s : State) : Handled :=
  let q := s.cp.port.get p
  .read (s.withCp { s.cp with port := s.cp.port.set p { q with attn := 0#8 } }) .done fun _ => byte1 q.attn.toNat

/-- The source that a port writes (R126). -/
def sourceOfPort : PortId → DemandSource
  | .f => .service
  | .r | .b => .intervention

/-- The demand that a BRAKE DEMAND stores (R126). -/
def demandOf (payload : List Byte) : Demand where
  pressure := .ofFn fun x => min 1000 (numberAt payload (2 * x.num) 2)
  left := min 200 (max 10 (numberAt payload 6 2))

/-- A pressure or the validity was clamped (R126). -/
def demandClamped (payload : List Byte) : Bool :=
  Axle.all.any (fun x => decide (1000 < numberAt payload (2 * x.num) 2)) ||
    decide (numberAt payload 6 2 < 10) || decide (200 < numberAt payload 6 2)

/-- BRAKE DEMAND (R126). -/
def handleBrakeDemand (p : PortId) (payload : List Byte) (s : State) : Handled :=
  let src := sourceOfPort p
  .act (setDemand src (demandOf payload) s) (if demandClamped payload then .clamped else .done) (demandReport src)

/-- The speed block of a refused HOLD APPLY (R49). -/
def State.speedBlock (s : State) : Nat := if s.vspd.usable then 2 else 1

/-- HOLD, operation APPLY (R49). -/
def handleHoldApply (s : State) : Handled :=
  match s.shc.state with
  | .released =>
    if s.entryAllowed then .act (enterApplying s) .done (holdApplyReport 0)
    else .read s .refusedInterlock (holdApplyReport s.speedBlock)
  | .releasing => .act (enterApplying s) .done (holdApplyReport 0)
  | .applying | .applied => .read s .done (holdApplyReport 0)

/-- The release block set (R57). -/
def State.releaseBlocks (s : State) : List Bool :=
  (Door.all.map fun d => !s.isShut d) ++ [decide (s.kns.state ≠ .ride), !s.ciu.perms.holdRelease]

/-- HOLD, operation RELEASE (R56, R57). -/
def handleHoldRelease (s : State) : Handled :=
  let none := List.replicate 6 false
  match s.shc.state with
  | .applying | .applied =>
    if s.releaseBlocks.any id then .read s .refusedInterlock (holdReleaseReport .refusedInterlock s.releaseBlocks)
    else .act (enterReleasing s) .done (holdReleaseReport .done none)
  | .releasing | .released => .read s .done (holdReleaseReport .done none)

/-- HEIGHT MODE (R95). -/
def handleHeightMode (payload : List Byte) (s : State) : Handled :=
  match s.lvu.heightMode with
  | .normal =>
    if byteAt payload 0 = 0 then .read s .done heightReport
    else if s.ciu.perms.heightRaised then .act (setHeightMode .raised s) .done heightReport
    else .read s .refusedInterlock heightReport
  | .raised =>
    if byteAt payload 0 = 0 then .act (setHeightMode .normal s) .done heightReport
    else .read s .done heightReport

/-- The kneel block sets (R108). -/
def noBlocks : List Bool := [false, false, false, false, false, false, false]
def blockPermission : List Bool := [true, false, false, false, false, false, false]
def blockNoCorners : List Bool := [false, true, false, false, false, false, false]
def blockRaising : List Bool := [false, false, true, false, false, false, false]
def State.blockDoors (s : State) : List Bool := [false, false, false] ++ Door.all.map fun d => !s.isShut d

/-- KNEEL, operation KNEEL (R109, R110). -/
def handleKneel (kind : KneelKind) (s : State) : Handled :=
  match s.kns.state with
  | .ride =>
    if s.ciu.perms.kneel = false then .read s .refusedInterlock (kneelReport blockPermission)
    else if s.kneelCorners kind = 0#6 then .read s .refusedInterlock (kneelReport blockNoCorners)
    else .act (beginKneel kind s) .done (kneelReport noBlocks)
  | .paused =>
    if s.ciu.perms.kneel then .act (startLowering s) .done (kneelReport noBlocks)
    else .read s .refusedInterlock (kneelReport blockPermission)
  | .lowering | .knelt => .read s .done (kneelReport noBlocks)
  | .raising => .read s .refusedInterlock (kneelReport blockRaising)

/-- KNEEL, operation HALT (R112). -/
def handleHalt (s : State) : Handled :=
  match s.kns.state with
  | .lowering => .act (enterPaused s) .done (kneelReport noBlocks)
  | .ride | .paused | .knelt => .read s .done (kneelReport noBlocks)
  | .raising => .read s .refusedInterlock (kneelReport blockRaising)

/-- KNEEL, operation RAISE (R114). -/
def handleRaise (s : State) : Handled :=
  match s.kns.state with
  | .lowering | .paused | .knelt =>
    if s.allShut then .act (enterRaising s) .done (kneelReport noBlocks)
    else .read s .refusedInterlock (kneelReport s.blockDoors)
  | .raising => .act (raiseAgain s) .done (kneelReport noBlocks)
  | .ride => .read s .done (kneelReport noBlocks)

/-- KNEEL by its operation (R108). -/
def handleKneelCommand (payload : List Byte) (s : State) : Handled :=
  match byteAt payload 0 with
  | 0 => handleKneel (if byteAt payload 1 = 0 then .front else .full) s
  | 1 => handleHalt s
  | _ => handleRaise s

/-- The door of a door number (R71). -/
def doorOf : Nat → Option Door
  | 1 => some .d1
  | 2 => some .d2
  | 3 => some .d3
  | 4 => some .d4
  | _ => none

/-- The door block sets (R71). -/
def doorFree : List Bool := [false, false, false]
def doorNoPermission : List Bool := [true, false, false]
def doorEdge : List Bool := [false, true, false]
def doorNotSettled : List Bool := [false, false, true]

/-- DOOR, operation OPEN (R72). -/
def handleDoorOpen (d : Door) (s : State) : Handled :=
  match (s.dcu.get d).phase with
  | .shut =>
    if s.ciu.perms.door.get d then
      .act (setPhase d .released (s.setDoor d { s.dcu.get d with phaseTimer := some Config.releasedTime })) .done
        (doorReport d doorFree)
    else .read s .refusedInterlock (doorReport d doorNoPermission)
  | .unsettled => .read s .refusedInterlock (doorReport d doorNotSettled)
  | .released | .opened | .closing | .obstructed => .read s .done (doorReport d doorFree)

/-- Entry to CLOSING (R74). -/
def beginClosing (d : Door) (s : State) : State :=
  let r := s.dcu.get d
  setPhase d .closing (s.setDoor d { r with
    phaseTimer := some Config.closingTime, proofTimeout := false,
    proofTimer := if r.closed = .made then some Config.proofTime else none })

/-- DOOR, operation CLOSE (R74). -/
def handleDoorClose (d : Door) (s : State) : Handled :=
  match (s.dcu.get d).phase with
  | .released => .act (enterShut d s) .done (doorReport d doorFree)
  | .opened =>
    if (s.dcu.get d).pressed then .read s .refusedInterlock (doorReport d doorEdge)
    else .act (beginClosing d s) .done (doorReport d doorFree)
  | .obstructed => .read s .refusedInterlock (doorReport d doorEdge)
  | .closing | .shut => .read s .done (doorReport d doorFree)
  | .unsettled => .read s .refusedInterlock (doorReport d doorNotSettled)

/-- DOOR by its operation and door number (R71). -/
def handleDoor (payload : List Byte) (s : State) : Handled :=
  match doorOf (byteAt payload 1) with
  | none => .refuse s .refusedRange
  | some d => if byteAt payload 0 = 0 then handleDoorOpen d s else handleDoorClose d s

/-- DRIVE STATUS (R16, R33, R189). -/
def handleDriveStatus (payload : List Byte) (s : State) : Handled :=
  let ind := byteAt payload 0
  let speed := numberAt payload 1 2
  let valid := hasFlag ind 2
  .act (takePortSpeed speed valid (takeIndications (hasFlag ind 0) (hasFlag ind 1) s))
    (if valid ∧ 15000 < speed then .clamped else .done) driveReport

/-- SET MASK (R99). -/
def handleSetMask (payload : List Byte) (s : State) : Handled :=
  let dest := byteAt payload 0
  let pattern := byteAt payload 1
  let e := byteAt payload 2
  if dest < 2 ∨ 4 < dest ∨ 63 < pattern ∨ (e ≠ 255 ∧ 11 < e) then .refuse s .refusedRange
  else
    let m := s.maskContent (BitVec.ofNat 6 pattern) (if e = 255 then none else some e)
    .act (storeMask dest m s) .done (maskReport m (if dest = 2 then s.lvu.kneelSet &&& ~~~m else 0#6))

/-- The channels of a REARM's set, in the order of their numbers (R174). -/
def rearmSet (field : Nat) : List Chan := Chan.all.filter fun k => hasFlag field k.num

/-- Every TRIPPED channel of the set becomes REARM_PENDING (R174). -/
def rearm (set : List Chan) (s : State) : State :=
  forEach set (fun k => decide ((s.pfu.chan.get k).state = .tripped))
    (fun k t => t.setChan k { t.pfu.chan.get k with state := .rearmPending }) s

/-- REARM (R174). A set in which no channel is TRIPPED is answered and changes nothing. -/
def handleRearm (payload : List Byte) (s : State) : Handled :=
  let g := groupOf (byteAt payload 0)
  let field := numberAt payload 1 3
  let set := rearmSet field
  if 1048575 < field ∨ set.any fun k => decide (k.group ≠ g) then .refuse s .refusedRange
  else if set.any fun k => decide ((s.pfu.chan.get k).state = .tripped) && (s.tripSource k).isSome then
    .read s .refusedInterlock (rearmReport set s)
  else if set.all fun k => decide ((s.pfu.chan.get k).state ≠ .tripped) then .read s .done (rearmReport set s)
  else .act (rearm set s) .done (rearmReport set s)

/-- An entry that a CLEAR FAULT matches (R202). -/
def FaultEntry.cleared (kind source : Nat) (e : FaultEntry) : Bool :=
  !e.active && (decide (kind = 255) ||
    (decide (e.kind.code = kind) && (decide (source = 255) || decide (e.source = source))))

/-- CLEAR FAULT (R202). One that removes no entry changes nothing (log entry 22). -/
def handleClearFault (payload : List Byte) (s : State) : Handled :=
  let kind := byteAt payload 0
  let source := byteAt payload 1
  if 15 < kind ∧ kind ≠ 255 then .refuse s .refusedRange
  else
    let kept := s.pfs.faults.filter fun e => !e.cleared kind source
    let removed := s.pfs.faults.length - kept.length
    if removed = 0 then .read s .done (clearReport removed)
    else .store (s.withPfs { s.pfs with faults := kept, overflow := false }) .done (clearReport removed)

/-- CLEAR DOUBT (R30). One that clears no latch, with an empty set or another, changes nothing (log entry 22). -/
def handleClearDoubt (payload : List Byte) (s : State) : Handled :=
  let t := clearDoubts (numberAt payload 0 2) s
  if t.ciu.latches = s.ciu.latches then .read s .done fun u => counter u.ciu.latches
  else .store t .done fun u => counter u.ciu.latches

/-- PROFILE WRITE (R196). -/
def handleProfileWrite (payload : List Byte) (s : State) : Handled :=
  let sec := byteAt payload 0
  let offset := numberAt payload 1 2
  let data := payload.drop 3
  if 10 < sec ∨ sectionLength sec = 0 ∨ sectionLength sec < offset + data.length then .refuse s .refusedRange
  else
    .store (s.withPfs { s.pfs with
      profile := s.pfs.profile.writeBytes (sectionBase sec + offset) data, confirmF := false, confirmB := false })
      .done fun t => byte1 sec ++ byte2 offset ++ byte1 data.length ++ checkReport t

/-- The count that a PROFILE READ is answered with (R196). -/
def readCount (sec offset count : Nat) : Nat := min (min 200 (max 1 count)) (sectionLength sec - offset)

/-- PROFILE READ (R196). -/
def handleProfileRead (payload : List Byte) (s : State) : Handled :=
  let sec := byteAt payload 0
  let offset := numberAt payload 1 2
  let count := byteAt payload 3
  if 10 < sec ∨ sectionLength sec ≤ offset then .refuse s .refusedRange
  else
    let n := readCount sec offset count
    .read s (if n = count then .done else .clamped) fun t =>
      byte1 sec ++ byte2 offset ++ byte1 n ++ t.pfs.profile.readBytes (sectionBase sec + offset) n ++ checkReport t ++
        counter t.pfs.recorded

/-- A port's confirmation is recorded (R197). -/
def confirm (p : PortId) (s : State) : State :=
  match p with
  | .f => s.withPfs { s.pfs with confirmF := true }
  | .b => s.withPfs { s.pfs with confirmB := true }
  | .r => s

/-- PROFILE CONFIRM (R197). -/
def handleProfileConfirm (p : PortId) (payload : List Byte) (s : State) : Handled :=
  if numberAt payload 0 2 ≠ (profileCheck s.pfs.profile).toNat then .refuse s .refusedRange
  else
    let t := confirm p s
    if t.pfs.confirmF ∧ t.pfs.confirmB then
      match failingSection t.pfs.profile with
      | some sec => .store (t.withPfs { t.pfs with confirmF := false, confirmB := false }) .refusedRange fun _ => byte1 sec
      | none => ⟨runEntry t, .done, fun _ => [], .full 1⟩
    else .store t .done fun _ => []

/-- The owner of a command that has passed the seven checks (R184). -/
def handle (c : Cmd) (p : PortId) (payload : List Byte) (s : State) : Handled :=
  match c with
  | .nop => .read s .done fun _ => []
  | .readStatus => handleReadStatus payload s
  | .readImage => handleReadImage payload s
  | .readAttention => handleReadAttention p s
  | .readFaults => .read s .done faultsReport
  | .readPermissions => .read s .done permissionsReport
  | .readBrake => .read s .done brakeReport
  | .readLevel => .read s .done levelReport
  | .readSteer => .read s .done steerReport
  | .brakeDemand => handleBrakeDemand p payload s
  | .hold => if byteAt payload 0 = 0 then handleHoldApply s else handleHoldRelease s
  | .heightMode => handleHeightMode payload s
  | .kneel => handleKneelCommand payload s
  | .door => handleDoor payload s
  | .driveStatus => handleDriveStatus payload s
  | .setMask => handleSetMask payload s
  | .rearm => handleRearm payload s
  | .clearFault => handleClearFault payload s
  | .clearDoubt => handleClearDoubt payload s
  | .enterSafe => .act (safeEntry s) .done fun _ => []
  | .profileWrite => handleProfileWrite payload s
  | .profileConfirm => handleProfileConfirm p payload s
  | .profileRead => handleProfileRead payload s

/-! ### Silence (R190) -/

/-- A valid frame restarts the silence timer and ends the port's silence. -/
def hear (p : PortId) (s : State) : State :=
  let q := s.cp.port.get p
  let t := s.withCp { s.cp with
    port := s.cp.port.set p { q with silence := some (s.prm.ports.silence.get p), silent := false } }
  if q.silent then endFault .portSilent p.num t else t

/-- The silence timer's expiry. -/
def silenceEnd (p : PortId) (s : State) : State :=
  let q := s.cp.port.get p
  match q.silence with
  | none => settleRequests s s
  | some _ =>
    finish s (raiseFault .portSilent p.num (s.withCp { s.cp with
      port := s.cp.port.set p { q with silence := none, silent := true } }))

/-! ### Replies and transactions (R180, R182) -/

/-- The bytes of a reply. -/
def Reply.bytes (r : Reply) : List Byte :=
  let body := r.status ++ [r.echo] ++ byte1 r.result.code ++ byte1 r.payload.length ++ r.payload
  body ++ [crc8 body]

/-- The reply formed for a port in the present state. -/
def State.replyOn (s : State) (p : PortId) (echo : Byte) (r : Result) (payload : List Byte) : Reply :=
  ⟨s.status p, echo, r, payload⟩

/-- The reply replaces the buffer's content. -/
def putReply (p : PortId) (echo : Byte) (r : Result) (payload : List Byte) (s : State) : State :=
  s.withCp { s.cp with
    port := s.cp.port.set p { s.cp.port.get p with reply := some (s.replyOn p echo r payload) } }

/-- The transaction on a port ends. -/
def endShift (p : PortId) (s : State) : State :=
  s.withCp { s.cp with port := s.cp.port.set p { s.cp.port.get p with shift := none } }

/-- A transaction begins: the buffer's content is shifted out, or a reply like that to NOP when the buffer is empty. What
follows the reply's last byte is the view `State.dataOut`. -/
def beginShift (p : PortId) (s : State) : State :=
  let q := s.cp.port.get p
  let out := match q.reply with
    | some r => r.bytes
    | none => (s.replyOn p 0#8 .done []).bytes
  s.withCp { s.cp with port := s.cp.port.set p { q with shift := some out } }

/-- The byte on the data output at place `k` of the transaction in progress: the reply, then 0x00 for the rest of the
transaction; none while no transaction is in progress (R180). -/
def State.dataOut (s : State) (p : PortId) (k : Nat) : Option Byte :=
  (s.cp.port.get p).shift.map fun out => out.getD k 0#8

/-! ### Transactions that met a reset (R193; log entry 53) -/

/-- The present transaction of the port met a reset, or no longer does. -/
def setCut (p : PortId) (met : Bool) (s : State) : State :=
  s.withRst { s.rst with cut := s.rst.cut.set p met }

/-- The ports whose present transaction met a reset, once more a reset comes. -/
def State.cutOff (s : State) : PerPort Bool :=
  .ofFn fun p => s.rst.cut.get p || (s.cp.port.get p).shift.isSome

/-- The event is closed as the owner's answer says. -/
def Handled.close (h : Handled) (s0 : State) : State :=
  match h.closing with
  | .port => requestChanged s0 h.state
  | .quiet => settleRequests s0 h.state
  | .full n => finishWith n s0 h.state

/-- The reply of an owner's answer is formed on the state that the event leaves. -/
def Handled.reply (h : Handled) (p : PortId) (echo : Byte) (s0 : State) : State :=
  let t := h.close s0
  putReply p echo h.result (h.payload t) t

/-- The owner's answer to a valid frame, or the port's refusal (checks 2 to 7 of R184). -/
def answer (p : PortId) (cmd : Byte) (payload : List Byte) (s : State) : Handled :=
  match cmdOf cmd with
  | none => .refuse s .unknownCommand
  | some c =>
    match refusal c p s.pfs.mode payload with
    | some r => .refuse s r
    | none => handle c p payload s

/-- The reply to a frame error (R181). -/
def rejectFrame (p : PortId) (first : Byte) (s : State) : State := putReply p first .frameError [] (endShift p s)

/-- A valid frame is decoded (R184, R190, R182). -/
def decodeFrame (p : PortId) (cmd : Byte) (payload : List Byte) (s : State) : State :=
  (answer p cmd payload (hear p (endShift p s))).reply p cmd s

/-- A port command: the frame with this command code and payload. A payload above 48 bytes makes a frame error
(R181). -/
def receive (p : PortId) (cmd : Byte) (payload : List Byte) (s : State) : State :=
  if 48 < payload.length then rejectFrame p cmd s else decodeFrame p cmd payload s

/-- A transaction ends having delivered these bytes (R180, R181). -/
def endTransaction (p : PortId) (rx : List Byte) (s : State) : State :=
  match frameOf rx with
  | .nothing => endShift p s
  | .bad first => rejectFrame p first s
  | .valid cmd payload => decodeFrame p cmd payload s

/-- A transaction starts. It meets the reset while RST_N is low, and is sound otherwise (R193). -/
def startTransaction (p : PortId) (s : State) : State :=
  if s.rst.low then setCut p true s else beginShift p (setCut p false s)

/-- A transaction ends. One that met a reset is abandoned: no frame of it is decoded (R193). -/
def completeTransaction (p : PortId) (f : State → State) (s : State) : State :=
  if s.rst.cut.get p then setCut p false s else if s.rst.low then s else f s

end Sys2Proof.Machine
end

