-- ==== Sys2Proof/Machine/Time.lean ====
section
/-! DEFINITION. The device's own time (one millisecond on an empty queue, log entry 1), reset (R193, R203), and the
small events of the Pulse Frame Unit (R169, R170, R172). -/

namespace Sys2Proof.Machine

/-! ### One millisecond -/

/-- An age saturates at 65535 (R1, R11). -/
def Rec.tick (r : Rec) : Rec := { r with age := bump Config.maxAge r.age, hold := tickTimer r.hold }

def Image.tick (im : Image) : Image where
  hgt := im.hgt.map Rec.tick
  prs := im.prs.map Rec.tick
  brp := im.brp.map Rec.tick
  art := im.art.tick
  rst := im.rst.tick
  wsp := im.wsp.map Rec.tick
  vspd := im.vspd.tick
  load := im.load.map Rec.tick
  twist := im.twist.tick
  artRate := im.artRate.tick
  vsup := im.vsup.tick

/-- A live demand keeps 1 ms until its expiry is taken as an event (R125, R127; log entry 31). -/
def Demand.tick (d : Demand) : Demand := if 1 < d.left then { d with left := d.left - 1 } else d

def DoorRec.tick (r : DoorRec) : DoorRec :=
  { r with phaseTimer := tickTimer r.phaseTimer, proofTimer := tickTimer r.proofTimer }

/-- One millisecond passes: ages, timers, the time base of the pulse edges and the time since reset. Nothing passes
while RST_N is low (log entry 4). -/
def tick (s : State) : State :=
  if s.rst.low then s
  else
    { s with
      sa := { s.sa with
        image := s.sa.image.tick, portSpeedLeft := tickTimer s.sa.portSpeedLeft, usTime := s.sa.usTime + 1000 }
      shc := { s.shc with quiet := tickTimer s.shc.quiet, applying := tickTimer s.shc.applying }
      dcu := s.dcu.map DoorRec.tick
      kns := { s.kns with lowering := tickTimer s.kns.lowering, raising := tickTimer s.kns.raising }
      bdu := { s.bdu with
        service := s.bdu.service.tick, intervention := s.bdu.intervention.tick,
        deviation := s.bdu.deviation.map tickTimer }
      sju := { s.sju with
        centring := tickTimer s.sju.centring, settle := tickTimer s.sju.settle,
        tracking := tickTimer s.sju.tracking }
      pfu := { s.pfu with group := s.pfu.group.map fun g => { g with starve := tickTimer g.starve } }
      cp := { s.cp with
        port := s.cp.port.map fun q => { q with silence := tickTimer q.silence },
        driveLeft := tickTimer s.cp.driveLeft }
      pfs := { s.pfs with
        startUp := tickTimer s.pfs.startUp, integrity := tickTimer s.pfs.integrity,
        timeMs := bump Config.maxTime s.pfs.timeMs } }

/-! ### Reset (R193, R203) -/

/-- The supply comes up. While RST_N is low the device stays in reset and keeps the last-reset cause for the release
(log entry 5). -/
def powerUp (s : State) : State :=
  if s.rst.low then s.withRst { s.rst with supplyUp := true }
  else State.resetWith .power ⟨false, false, s.cutOff⟩ s.pending

/-- RST_N is driven low: transactions in progress are abandoned (R193). -/
def holdReset (s : State) : State :=
  (s.withCp { s.cp with port := s.cp.port.map fun q => { q with shift := none } }).withRst
    { s.rst with low := true, cut := s.cutOff }

/-- RST_N is released: every block takes its reset state (R203). -/
def releaseReset (s : State) : State :=
  State.resetWith (if s.rst.supplyUp then .power else .line) ⟨false, false, s.cutOff⟩ s.pending

/-! ### Frame boundaries (R53, R58, R85, R111, R133, R157, R169) -/

/-- A BRK boundary: the Pulse Frame Unit first; then the Stop Hold Controller's action, the ends of abandonment that the
boundary's decisions bring (R137), and the inputs of the two computations, in the order of log entry 9. -/
def brakeBoundary (order : BoundaryOrder) (s : State) : State :=
  let t := pulseBoundary .brk s
  takeJointInputs (match order with
    | .holdFirst => takeBrakeInputs (reabandonTouched s (holdBoundary t))
    | .captureFirst => holdBoundary (takeBrakeInputs (reabandonTouched s t)))

/-- An LVL boundary: the Pulse Frame Unit, the Kneel Sequencer, then the inputs of the levelling computation. -/
def levelBoundary (s : State) : State := takeLevelInputs (kneelBoundary (pulseBoundary .lvl s))

/-- FRAME_BOUNDARY. -/
def frameBoundary (g : FrameGroup) (order : BoundaryOrder) (s : State) : State :=
  match g with
  | .brk => brakeBoundary order s
  | .lvl => levelBoundary s
  | .str => pulseBoundary .str s

/-! ### Starvation and diagnosis (R170, R172) -/

/-- STARVATION_TIMER_EXPIRY. -/
def starvationEnd (g : FrameGroup) (s : State) : State :=
  let r := s.pfu.group.get g
  match r.starve with
  | none => s
  | some _ =>
    raiseFault .frameStarved g.num
      (s.withPfu { s.pfu with group := s.pfu.group.set g { r with starve := none, starved := true } })

/-- DRIVER_DIAG_REPORT. An over-current can be detected only while the output is energized (log entry 24). -/
def diagReport (k : Chan) (kind : DiagKind) (s : State) : State :=
  let c := s.pfu.chan.get k
  match kind with
  | .overCurrent => if s.drives k then s.setChan k { c with overCurrent := true } else s
  | .openLoad => s.setChan k { c with openLoad := true }

/-- DRIVER_DIAG_CLEARED. -/
def diagCleared (k : Chan) (s : State) : State :=
  s.setChan k { s.pfu.chan.get k with openLoad := false }

end Sys2Proof.Machine
end

