-- ==== Sys2Proof/Machine/Events.lean ====
section
/-! DEFINITION. The meanings of the events: samples, switches, timers, computations, boundaries, diagnosis,
transactions and reset. -/

namespace Sys2Proof.Machine

/-- What an event does to a device that is not held in reset (log entry 4). Every event has a next state. -/
def State.live (s : State) (f : State → State) : Host.Outcome State Fault Refusal :=
  .next (if s.rst.low then s else f s)

/-- What the end of a transaction on a port does, where `f` is what its frame does. Every such event has a next
state. -/
def State.onPort (s : State) (p : PortId) (f : State → State) : Host.Outcome State Fault Refusal :=
  .next (completeTransaction p f s)

/-- POWER_ON: the supply comes up (R203). -/
def execPowerOn (s : State) : Host.Outcome State Fault Refusal := .next (powerUp s)

/-- RST_N: RST_N is released (R203). -/
def execRstN (s : State) : Host.Outcome State Fault Refusal := .next (releaseReset s)

/-- HEIGHT_SAMPLE: R3 to R8, R10, R19, R22. -/
def execHeightSample (raw : PerCorner Reading) (s : State) : Host.Outcome State Fault Refusal :=
  s.live fun t => finish t (sampleHeights raw t)

/-- BELLOWS_SAMPLE: R3 to R8, R10, R17, R22, R128. -/
def execBellowsSample (raw : PerCorner Reading) (s : State) : Host.Outcome State Fault Refusal :=
  s.live fun t => finish t (sampleBellows raw t)

/-- PAIR_SAMPLE: R3 to R8, R12, R13, R20, R22. -/
def execPairSample (brp : PerAxle Reading) (art1 art2 rst1 rst2 : Reading)
    (s : State) : Host.Outcome State Fault Refusal :=
  s.live fun t => finish t (samplePairs brp art1 art2 rst1 rst2 t)

/-- WHEEL_SPEED_EVALUATION: R3 to R8, R15, R22. -/
def execWheelSpeedEvaluation (lineFault : PerWheel Bool) (usec : Nat)
    (s : State) : Host.Outcome State Fault Refusal :=
  s.live fun t => finish t (sampleWheels lineFault usec t)

/-- VSUP_SAMPLE: R3 to R8, R21, R22. -/
def execVsupSample (raw : Reading) (s : State) : Host.Outcome State Fault Refusal :=
  s.live fun t => finish t (sampleSupply raw t)

/-- HOLD_WINDOW_EXPIRY: R9, R10. -/
def execHoldWindowExpiry (k : SampledRec) (s : State) : Host.Outcome State Fault Refusal :=
  s.live fun t => finish t (holdWindowEnd k t)

/-- PAIR_HOLD_TIMER_EXPIRY: R12, R13, R20, R150. -/
def execPairHoldTimerExpiry (k : PairRec) (s : State) : Host.Outcome State Fault Refusal :=
  s.live fun t => finish t (pairHoldEnd k t)

/-- PORT_R_SPEED_EXPIRY: R16. -/
def execPortRSpeedExpiry (s : State) : Host.Outcome State Fault Refusal := s.live fun t => finish t (portSpeedEnd t)

/-- DRIVE_INDICATION_EXPIRY: R33. -/
def execDriveIndicationExpiry (s : State) : Host.Outcome State Fault Refusal :=
  s.live fun t => finish t (indicationsEnd t)

/-- PASS_END: R39. -/
def execPassEnd (s : State) : Host.Outcome State Fault Refusal := s.live passEnd

/-- APPLYING_TIMER_EXPIRY: R54. -/
def execApplyingTimerExpiry (s : State) : Host.Outcome State Fault Refusal :=
  s.live fun t => settleRequests t (applyingExpiry t)

/-- QUIET_TIMER_EXPIRY: R61. -/
def execQuietTimerExpiry (s : State) : Host.Outcome State Fault Refusal := s.live fun t => finish t (quietExpiry t)

/-- DOOR_SETTLE: R70. -/
def execDoorSettle (d : Door) (made : Bool) (s : State) : Host.Outcome State Fault Refusal :=
  s.live fun t => finish t (doorSettle d made t)

/-- CLOSED_SWITCH_MAKE: R68, R75, R76, R78. -/
def execClosedSwitchMake (d : Door) (s : State) : Host.Outcome State Fault Refusal :=
  s.live fun t => finish t (doorMake d t)

/-- CLOSED_SWITCH_BREAK: R68, R73, R75, R76, R78, R79. -/
def execClosedSwitchBreak (d : Door) (s : State) : Host.Outcome State Fault Refusal :=
  s.live fun t => finish t (doorBreak d t)

/-- EDGE_SWITCH_PRESS: R69, R77. -/
def execEdgeSwitchPress (d : Door) (s : State) : Host.Outcome State Fault Refusal :=
  s.live fun t => finish t (edgePress d t)

/-- EDGE_SWITCH_RELEASE: R69, R75, R78. -/
def execEdgeSwitchRelease (d : Door) (s : State) : Host.Outcome State Fault Refusal :=
  s.live fun t => finish t (edgeRelease d t)

/-- PHASE_TIMER_EXPIRY: R73, R77. -/
def execPhaseTimerExpiry (d : Door) (s : State) : Host.Outcome State Fault Refusal :=
  s.live fun t => finish t (phaseExpiry d t)

/-- PROOF_TIMER_EXPIRY: R76, R78. -/
def execProofTimerExpiry (d : Door) (s : State) : Host.Outcome State Fault Refusal :=
  s.live fun t => finish t (proofExpiry d t)

/-- LEVELLING_COMPUTATION: R85 to R92. -/
def execLevellingComputation (s : State) : Host.Outcome State Fault Refusal :=
  s.live fun t => settleRequests t (levellingEnd t)

/-- LOWERING_TIMER_EXPIRY: R113. -/
def execLoweringTimerExpiry (s : State) : Host.Outcome State Fault Refusal :=
  s.live fun t => finish t (loweringExpiry t)

/-- RAISING_TIMER_EXPIRY: R115. -/
def execRaisingTimerExpiry (s : State) : Host.Outcome State Fault Refusal :=
  s.live fun t => settleRequests t (raisingExpiry t)

/-- DEMAND_EXPIRY: R127. -/
def execDemandExpiry (src : DemandSource) (s : State) : Host.Outcome State Fault Refusal :=
  s.live fun t => finish t (demandExpiry src t)

/-- MODULATOR_COMPUTATION: R133 to R136. -/
def execModulatorComputation (s : State) : Host.Outcome State Fault Refusal :=
  s.live fun t => settleRequests t (modulatorEnd t)

/-- DEVIATION_TIMER_EXPIRY: R136. -/
def execDeviationTimerExpiry (x : Axle) (s : State) : Host.Outcome State Fault Refusal :=
  s.live fun t => settleRequests t (deviationExpiry x t)

/-- STEER_UPDATE: R153 to R156, R147. -/
def execSteerUpdate (s : State) : Host.Outcome State Fault Refusal := s.live fun t => settleRequests t (steerUpdate t)

/-- SETTLE_TIMER_EXPIRY: R147. -/
def execSettleTimerExpiry (s : State) : Host.Outcome State Fault Refusal := s.live fun t => finish t (settleExpiry t)

/-- CENTRING_TIMER_EXPIRY: R148. -/
def execCentringTimerExpiry (s : State) : Host.Outcome State Fault Refusal :=
  s.live fun t => finish t (centringExpiry t)

/-- TRACKING_TIMER_EXPIRY: R156. -/
def execTrackingTimerExpiry (s : State) : Host.Outcome State Fault Refusal :=
  s.live fun t => finish t (trackingExpiry t)

/-- JOINT_COMPUTATION: R157. -/
def execJointComputation (s : State) : Host.Outcome State Fault Refusal :=
  s.live fun t => settleRequests t (jointEnd t)

/-- FRAME_BOUNDARY: R53, R58, R85, R111, R119, R133, R157, R169, R175. -/
def execFrameBoundary (g : FrameGroup) (order : BoundaryOrder) (s : State) : Host.Outcome State Fault Refusal :=
  s.live fun t => finish t (frameBoundary g order t)

/-- STARVATION_TIMER_EXPIRY: R170. -/
def execStarvationTimerExpiry (g : FrameGroup) (s : State) : Host.Outcome State Fault Refusal :=
  s.live fun t => finish t (starvationEnd g t)

/-- DRIVER_DIAG_REPORT: R172, R173. -/
def execDriverDiagReport (k : Chan) (kind : DiagKind) (s : State) : Host.Outcome State Fault Refusal :=
  s.live fun t => finish t (diagReport k kind t)

/-- TRANSACTION_START: R180, R182, R193. -/
def execTransactionStart (p : PortId) (s : State) : Host.Outcome State Fault Refusal := .next (startTransaction p s)

/-- FRAME_ERROR: R180, R181, R193. -/
def execFrameError (p : PortId) (rx : List Byte) (s : State) : Host.Outcome State Fault Refusal :=
  s.onPort p (endTransaction p rx)

/-- UNKNOWN_COMMAND: R184, R186. -/
def execUnknownCommand (p : PortId) (cmd : Byte) (payload : List Byte)
    (s : State) : Host.Outcome State Fault Refusal :=
  s.onPort p (receive p cmd payload)

/-- SILENCE_TIMER_EXPIRY: R190. -/
def execSilenceTimerExpiry (p : PortId) (s : State) : Host.Outcome State Fault Refusal := s.live (silenceEnd p)

/-- START_UP_TIMER_EXPIRY: R194, R25. -/
def execStartUpTimerExpiry (s : State) : Host.Outcome State Fault Refusal :=
  s.live fun t => finish t (startUpExpiry t)

/-- INTEGRITY_TIMER_EXPIRY: R199. -/
def execIntegrityTimerExpiry (s : State) : Host.Outcome State Fault Refusal := s.live integrityEnd

/-- DRIVER_DIAG_CLEARED: R172. -/
def execDriverDiagCleared (k : Chan) (s : State) : Host.Outcome State Fault Refusal :=
  s.live fun t => settleRequests t (diagCleared k t)

/-- DOOR_SWITCH_SAMPLE: R68, R69. -/
def execDoorSwitchSample (closed pressed : PerDoor Bool) (s : State) : Host.Outcome State Fault Refusal :=
  s.live fun t => finish t (sampleDoors closed pressed t)

/-- WHEEL_SPEED_PULSE_EDGE: R4. -/
def execWheelSpeedPulseEdge (w : Wheel) (usec : Nat) (s : State) : Host.Outcome State Fault Refusal :=
  s.live fun t => settleRequests t (pulseEdge w usec t)

/-- RST_N_ASSERTED: R193, R203. -/
def execRstNAsserted (s : State) : Host.Outcome State Fault Refusal := .next (holdReset s)

end Sys2Proof.Machine
end

