-- ==== Sys2Proof/Machine/Commands.lean ====
section
/-! DEFINITION. The meanings of the port commands. A constructor is the name of a form; the form that is run is the
one the payload's operand byte selects (R187; log entry 27). -/

namespace Sys2Proof.Machine

/-- HOLD_APPLY: R49. -/
def execHoldApply (p : PortId) (payload : List Byte) (s : State) : Host.Outcome State Fault Refusal :=
  s.onPort p (receive p 0x11#8 payload)

/-- HOLD_RELEASE: R56, R57. -/
def execHoldRelease (p : PortId) (payload : List Byte) (s : State) : Host.Outcome State Fault Refusal :=
  s.onPort p (receive p 0x11#8 payload)

/-- DOOR_OPEN: R71, R72. -/
def execDoorOpen (p : PortId) (payload : List Byte) (s : State) : Host.Outcome State Fault Refusal :=
  s.onPort p (receive p 0x14#8 payload)

/-- DOOR_CLOSE: R71, R74. -/
def execDoorClose (p : PortId) (payload : List Byte) (s : State) : Host.Outcome State Fault Refusal :=
  s.onPort p (receive p 0x14#8 payload)

/-- HEIGHT_MODE_NORMAL: R94, R95. -/
def execHeightModeNormal (p : PortId) (payload : List Byte) (s : State) : Host.Outcome State Fault Refusal :=
  s.onPort p (receive p 0x12#8 payload)

/-- HEIGHT_MODE_RAISED: R94, R95. -/
def execHeightModeRaised (p : PortId) (payload : List Byte) (s : State) : Host.Outcome State Fault Refusal :=
  s.onPort p (receive p 0x12#8 payload)

/-- SET_MASK: R99 to R101, R118. -/
def execSetMask (p : PortId) (payload : List Byte) (s : State) : Host.Outcome State Fault Refusal :=
  s.onPort p (receive p 0x16#8 payload)

/-- READ_LEVEL: R103. -/
def execReadLevel (p : PortId) (payload : List Byte) (s : State) : Host.Outcome State Fault Refusal :=
  s.onPort p (receive p 0x07#8 payload)

/-- KNEEL: R108 to R110. -/
def execKneel (p : PortId) (payload : List Byte) (s : State) : Host.Outcome State Fault Refusal :=
  s.onPort p (receive p 0x13#8 payload)

/-- HALT: R108, R112. -/
def execHalt (p : PortId) (payload : List Byte) (s : State) : Host.Outcome State Fault Refusal :=
  s.onPort p (receive p 0x13#8 payload)

/-- RAISE: R108, R114. -/
def execRaise (p : PortId) (payload : List Byte) (s : State) : Host.Outcome State Fault Refusal :=
  s.onPort p (receive p 0x13#8 payload)

/-- BRAKE_DEMAND: R126. -/
def execBrakeDemand (p : PortId) (payload : List Byte) (s : State) : Host.Outcome State Fault Refusal :=
  s.onPort p (receive p 0x10#8 payload)

/-- READ_BRAKE: R140. -/
def execReadBrake (p : PortId) (payload : List Byte) (s : State) : Host.Outcome State Fault Refusal :=
  s.onPort p (receive p 0x06#8 payload)

/-- READ_STEER: R159. -/
def execReadSteer (p : PortId) (payload : List Byte) (s : State) : Host.Outcome State Fault Refusal :=
  s.onPort p (receive p 0x08#8 payload)

/-- REARM: R174. -/
def execRearm (p : PortId) (payload : List Byte) (s : State) : Host.Outcome State Fault Refusal :=
  s.onPort p (receive p 0x17#8 payload)

/-- NOP: R188. -/
def execNop (p : PortId) (payload : List Byte) (s : State) : Host.Outcome State Fault Refusal :=
  s.onPort p (receive p 0x00#8 payload)

/-- READ_STATUS: R188, R178. -/
def execReadStatus (p : PortId) (payload : List Byte) (s : State) : Host.Outcome State Fault Refusal :=
  s.onPort p (receive p 0x01#8 payload)

/-- READ_IMAGE: R23. -/
def execReadImage (p : PortId) (payload : List Byte) (s : State) : Host.Outcome State Fault Refusal :=
  s.onPort p (receive p 0x02#8 payload)

/-- READ_ATTENTION: R192. -/
def execReadAttention (p : PortId) (payload : List Byte) (s : State) : Host.Outcome State Fault Refusal :=
  s.onPort p (receive p 0x03#8 payload)

/-- READ_FAULTS: R202. -/
def execReadFaults (p : PortId) (payload : List Byte) (s : State) : Host.Outcome State Fault Refusal :=
  s.onPort p (receive p 0x04#8 payload)

/-- READ_PERMISSIONS: R44. -/
def execReadPermissions (p : PortId) (payload : List Byte) (s : State) : Host.Outcome State Fault Refusal :=
  s.onPort p (receive p 0x05#8 payload)

/-- DRIVE_STATUS: R16, R33, R189. -/
def execDriveStatus (p : PortId) (payload : List Byte) (s : State) : Host.Outcome State Fault Refusal :=
  s.onPort p (receive p 0x15#8 payload)

/-- CLEAR_FAULT: R202. -/
def execClearFault (p : PortId) (payload : List Byte) (s : State) : Host.Outcome State Fault Refusal :=
  s.onPort p (receive p 0x18#8 payload)

/-- CLEAR_DOUBT: R30. -/
def execClearDoubt (p : PortId) (payload : List Byte) (s : State) : Host.Outcome State Fault Refusal :=
  s.onPort p (receive p 0x19#8 payload)

/-- ENTER_SAFE: R189, R194. -/
def execEnterSafe (p : PortId) (payload : List Byte) (s : State) : Host.Outcome State Fault Refusal :=
  s.onPort p (receive p 0x1A#8 payload)

/-- PROFILE_WRITE: R196. -/
def execProfileWrite (p : PortId) (payload : List Byte) (s : State) : Host.Outcome State Fault Refusal :=
  s.onPort p (receive p 0x20#8 payload)

/-- PROFILE_READ: R196. -/
def execProfileRead (p : PortId) (payload : List Byte) (s : State) : Host.Outcome State Fault Refusal :=
  s.onPort p (receive p 0x22#8 payload)

/-- PROFILE_CONFIRM: R197, R198. -/
def execProfileConfirm (p : PortId) (payload : List Byte) (s : State) : Host.Outcome State Fault Refusal :=
  s.onPort p (receive p 0x21#8 payload)

end Sys2Proof.Machine
end

