-- ==== Sys2Proof/Machine/Dispatch.lean ====
section
/-! DEFINITION. The meaning of every row of the table, one arm per constructor. -/

namespace Sys2Proof.Machine

/-- What a command does to everything but the queue. -/
def exec (i : Instr) (s : State) : Host.Outcome State Fault Refusal :=
  match i with
  | .powerOn => Sys2Proof.Machine.execPowerOn s
  | .rstN => Sys2Proof.Machine.execRstN s
  | .heightSample raw => Sys2Proof.Machine.execHeightSample raw s
  | .bellowsSample raw => Sys2Proof.Machine.execBellowsSample raw s
  | .pairSample brp art1 art2 rst1 rst2 => Sys2Proof.Machine.execPairSample brp art1 art2 rst1 rst2 s
  | .wheelSpeedEvaluation lineFault usec => Sys2Proof.Machine.execWheelSpeedEvaluation lineFault usec s
  | .vsupSample raw => Sys2Proof.Machine.execVsupSample raw s
  | .holdWindowExpiry k => Sys2Proof.Machine.execHoldWindowExpiry k s
  | .pairHoldTimerExpiry k => Sys2Proof.Machine.execPairHoldTimerExpiry k s
  | .portRSpeedExpiry => Sys2Proof.Machine.execPortRSpeedExpiry s
  | .driveIndicationExpiry => Sys2Proof.Machine.execDriveIndicationExpiry s
  | .passEnd => Sys2Proof.Machine.execPassEnd s
  | .holdApply p payload => Sys2Proof.Machine.execHoldApply p payload s
  | .holdRelease p payload => Sys2Proof.Machine.execHoldRelease p payload s
  | .applyingTimerExpiry => Sys2Proof.Machine.execApplyingTimerExpiry s
  | .quietTimerExpiry => Sys2Proof.Machine.execQuietTimerExpiry s
  | .doorSettle d made => Sys2Proof.Machine.execDoorSettle d made s
  | .closedSwitchMake d => Sys2Proof.Machine.execClosedSwitchMake d s
  | .closedSwitchBreak d => Sys2Proof.Machine.execClosedSwitchBreak d s
  | .edgeSwitchPress d => Sys2Proof.Machine.execEdgeSwitchPress d s
  | .edgeSwitchRelease d => Sys2Proof.Machine.execEdgeSwitchRelease d s
  | .doorOpen p payload => Sys2Proof.Machine.execDoorOpen p payload s
  | .doorClose p payload => Sys2Proof.Machine.execDoorClose p payload s
  | .phaseTimerExpiry d => Sys2Proof.Machine.execPhaseTimerExpiry d s
  | .proofTimerExpiry d => Sys2Proof.Machine.execProofTimerExpiry d s
  | .levellingComputation => Sys2Proof.Machine.execLevellingComputation s
  | .heightModeNormal p payload => Sys2Proof.Machine.execHeightModeNormal p payload s
  | .heightModeRaised p payload => Sys2Proof.Machine.execHeightModeRaised p payload s
  | .setMask p payload => Sys2Proof.Machine.execSetMask p payload s
  | .readLevel p payload => Sys2Proof.Machine.execReadLevel p payload s
  | .kneel p payload => Sys2Proof.Machine.execKneel p payload s
  | .halt p payload => Sys2Proof.Machine.execHalt p payload s
  | .raise p payload => Sys2Proof.Machine.execRaise p payload s
  | .loweringTimerExpiry => Sys2Proof.Machine.execLoweringTimerExpiry s
  | .raisingTimerExpiry => Sys2Proof.Machine.execRaisingTimerExpiry s
  | .brakeDemand p payload => Sys2Proof.Machine.execBrakeDemand p payload s
  | .demandExpiry src => Sys2Proof.Machine.execDemandExpiry src s
  | .modulatorComputation => Sys2Proof.Machine.execModulatorComputation s
  | .deviationTimerExpiry x => Sys2Proof.Machine.execDeviationTimerExpiry x s
  | .readBrake p payload => Sys2Proof.Machine.execReadBrake p payload s
  | .steerUpdate => Sys2Proof.Machine.execSteerUpdate s
  | .settleTimerExpiry => Sys2Proof.Machine.execSettleTimerExpiry s
  | .centringTimerExpiry => Sys2Proof.Machine.execCentringTimerExpiry s
  | .trackingTimerExpiry => Sys2Proof.Machine.execTrackingTimerExpiry s
  | .jointComputation => Sys2Proof.Machine.execJointComputation s
  | .readSteer p payload => Sys2Proof.Machine.execReadSteer p payload s
  | .frameBoundary g order => Sys2Proof.Machine.execFrameBoundary g order s
  | .starvationTimerExpiry g => Sys2Proof.Machine.execStarvationTimerExpiry g s
  | .driverDiagReport k kind => Sys2Proof.Machine.execDriverDiagReport k kind s
  | .rearm p payload => Sys2Proof.Machine.execRearm p payload s
  | .transactionStart p => Sys2Proof.Machine.execTransactionStart p s
  | .frameError p rx => Sys2Proof.Machine.execFrameError p rx s
  | .unknownCommand p cmd payload => Sys2Proof.Machine.execUnknownCommand p cmd payload s
  | .nop p payload => Sys2Proof.Machine.execNop p payload s
  | .readStatus p payload => Sys2Proof.Machine.execReadStatus p payload s
  | .readImage p payload => Sys2Proof.Machine.execReadImage p payload s
  | .readAttention p payload => Sys2Proof.Machine.execReadAttention p payload s
  | .readFaults p payload => Sys2Proof.Machine.execReadFaults p payload s
  | .readPermissions p payload => Sys2Proof.Machine.execReadPermissions p payload s
  | .driveStatus p payload => Sys2Proof.Machine.execDriveStatus p payload s
  | .clearFault p payload => Sys2Proof.Machine.execClearFault p payload s
  | .clearDoubt p payload => Sys2Proof.Machine.execClearDoubt p payload s
  | .enterSafe p payload => Sys2Proof.Machine.execEnterSafe p payload s
  | .profileWrite p payload => Sys2Proof.Machine.execProfileWrite p payload s
  | .profileRead p payload => Sys2Proof.Machine.execProfileRead p payload s
  | .profileConfirm p payload => Sys2Proof.Machine.execProfileConfirm p payload s
  | .silenceTimerExpiry p => Sys2Proof.Machine.execSilenceTimerExpiry p s
  | .startUpTimerExpiry => Sys2Proof.Machine.execStartUpTimerExpiry s
  | .integrityTimerExpiry => Sys2Proof.Machine.execIntegrityTimerExpiry s
  | .driverDiagCleared k => Sys2Proof.Machine.execDriverDiagCleared k s
  | .doorSwitchSample closed pressed => Sys2Proof.Machine.execDoorSwitchSample closed pressed s
  | .wheelSpeedPulseEdge w usec => Sys2Proof.Machine.execWheelSpeedPulseEdge w usec s
  | .rstNAsserted => Sys2Proof.Machine.execRstNAsserted s

end Sys2Proof.Machine
end

