-- ==== Sys2Proof/Safety.lean ====
section
/-! DEFINITION. What the statements speak of: the invariants (what holds of the device in every state that a run
reaches), and the frames (what an event leaves as it was). -/

namespace Sys2Proof.Machine

/-- The profile's bytes are in canonical form and lie inside the 1130 bytes (R195). -/
def State.profileSound (s : State) : Bool :=
  s.pfs.profile.wf && s.pfs.profile.all fun c => decide (c.1 < profileSize)

/-- No two entries of a fault list have the same kind and source. -/
def faultsDistinct : List FaultEntry → Bool
  | [] => true
  | e :: es => (es.all fun f => !f.is e.kind e.source) && faultsDistinct es

/-- R201: at most 24 entries, and never two with the same kind and source. -/
def State.faultsSound (s : State) : Bool :=
  decide (s.pfs.faults.length ≤ Config.faultListSize) && faultsDistinct s.pfs.faults

/-- R100: mask entry 1 is a subset of mask entry 2. -/
def State.masksSound (s : State) : Bool := decide (s.lvu.kneelSet &&& ~~~s.lvu.levelSet = 0#6)

/-- R154: c is 0 in LOCKED and FAULTED; and the settle timer runs only in CENTRING with c at 0 (R147). -/
def State.angleSound (s : State) : Bool :=
  (!(decide (s.sju.state = .locked) || decide (s.sju.state = .faulted)) || decide (s.sju.angle = 0)) &&
    (s.sju.settle.isNone || (decide (s.sju.state = .centring) && decide (s.sju.angle = 0)))

/-- R40: no permission is published set while its floor fails. -/
def State.floorsSound (s : State) : Bool := decide (s.ciu.perms.and s.floors = s.ciu.perms)

/-- R149: FREE only while no lock cause is present. -/
def State.freeSound (s : State) : Bool := !decide (s.sju.state = .free) || !s.lockCaused

/-- R151: away from RIDE the steer is LOCKED or FAULTED. -/
def State.kneelSteerSound (s : State) : Bool :=
  decide (s.kns.state = .ride) || decide (s.sju.state = .locked) || decide (s.sju.state = .faulted)

/-- R66, R64, R50: outside RUN the hold is RELEASED with no application pending. -/
def State.holdModeSound (s : State) : Bool :=
  decide (s.pfs.mode = .run) || (decide (s.shc.state = .released) && !s.shc.pendingApply)

/-- R47: in APPLYING and APPLIED every effective floor is the full one; in RELEASED it is 0, and in RELEASING it is 0
for an axle that is not a hold axle; and outside RUN the hold is RELEASED with no application pending. -/
def State.holdSound (s : State) : Bool :=
  s.holdModeSound && match s.shc.state with
    | .applying | .applied => decide (s.shc.floor = s.fullFloors)
    | .released => decide (s.shc.floor = .fill 0) && !s.shc.creep
    | .releasing => !s.shc.creep && Axle.all.all fun x => s.holdAxle x || decide (s.shc.floor.get x = 0)

/-- R59, R81, R96, R113: a door is RELEASED, a kneel LOWERING, a hold RELEASING and the height mode RAISED only while the
permission is published set. -/
def State.consumersSound (s : State) : Bool :=
  (Door.all.all fun d => decide ((s.dcu.get d).phase ≠ .released) || s.ciu.perms.door.get d) &&
    (decide (s.kns.state ≠ .lowering) || s.ciu.perms.kneel) &&
    (decide (s.shc.state ≠ .releasing) || s.ciu.perms.holdRelease) &&
    (decide (s.lvu.heightMode ≠ .raised) || s.ciu.perms.heightRaised)

/-- R164: no trip selection names one of the source indices 83 to 86. -/
def State.selectionsSound (s : State) : Bool :=
  Chan.all.all fun k => (s.selects k).index.all fun i => decide (i < 83) || decide (86 < i)

/-- R173: no ARMED channel has a selected source asserted. -/
def State.tripsSound (s : State) : Bool := s.selectionsSound && !s.tripDue

/-- R150: while the STR channel is TRIPPED or REARM_PENDING the steer is FAULTED. -/
def State.bridgeSound (s : State) : Bool :=
  !s.pfu.chan.bridge.state.notArmed || decide (s.sju.state = .faulted)

/-- R137: the cause set of an axle is what its BRP record and its channels make it. Before RUN nothing may have changed
since reset, which leaves the set empty beside a LOST record (R142); in RUN and SAFE no brake channel is IDLE (R171). -/
def State.abandonSound (s : State) : Bool :=
  Axle.all.all fun x =>
    let idle := decide ((s.pfu.chan.inlet.get x).state = .idle) && decide ((s.pfu.chan.exhaust.get x).state = .idle)
    let started := decide (s.pfs.mode = .run) || decide (s.pfs.mode = .safe)
    (decide (s.bdu.cause.get x = s.causesNow x) || (idle && !s.abandoned x)) &&
      (!started || (decide ((s.pfu.chan.inlet.get x).state ≠ .idle) &&
        decide ((s.pfu.chan.exhaust.get x).state ≠ .idle)))

/-- R128: every ratio is 1024 before the BRAKE section is loaded, and the one that its LOAD record gives after, unless
the freeze is in force. -/
def State.ratioSound (s : State) : Bool :=
  Axle.all.all fun x =>
    if s.loaded then s.kns.freeze || decide (s.bdu.ratio.get x = loadRatio s.prm.brake x (s.sa.image.load.get x))
    else decide (s.bdu.ratio.get x = 1024)

/-- R82: the moving flag of a door is what its phase and a usable VSPD make it. -/
def State.movingSound (s : State) : Bool :=
  Door.all.all fun d =>
    let r := s.dcu.get d
    if r.phase = .shut then !r.moving
    else !s.vspd.usable || (r.moving == decide (Config.movingSpeed < s.vspd.value))

/-- R125: a source with no time left has expired, and its pressures are 0. -/
def State.demandsSound (s : State) : Bool :=
  (decide (s.bdu.service.left ≠ 0) || decide (s.bdu.service.pressure = .fill 0)) &&
    (decide (s.bdu.intervention.left ≠ 0) || decide (s.bdu.intervention.pressure = .fill 0))

/-! ### Port commands as frames -/

/-- The port, the command code and the payload of a port command (R186). -/
def frameOfCommand : Instr → Option (PortId × Byte × List Byte)
  | .nop p v => some (p, 0x00#8, v)
  | .readStatus p v => some (p, 0x01#8, v)
  | .readImage p v => some (p, 0x02#8, v)
  | .readAttention p v => some (p, 0x03#8, v)
  | .readFaults p v => some (p, 0x04#8, v)
  | .readPermissions p v => some (p, 0x05#8, v)
  | .readBrake p v => some (p, 0x06#8, v)
  | .readLevel p v => some (p, 0x07#8, v)
  | .readSteer p v => some (p, 0x08#8, v)
  | .brakeDemand p v => some (p, 0x10#8, v)
  | .holdApply p v | .holdRelease p v => some (p, 0x11#8, v)
  | .heightModeNormal p v | .heightModeRaised p v => some (p, 0x12#8, v)
  | .kneel p v | .halt p v | .raise p v => some (p, 0x13#8, v)
  | .doorOpen p v | .doorClose p v => some (p, 0x14#8, v)
  | .driveStatus p v => some (p, 0x15#8, v)
  | .setMask p v => some (p, 0x16#8, v)
  | .rearm p v => some (p, 0x17#8, v)
  | .clearFault p v => some (p, 0x18#8, v)
  | .clearDoubt p v => some (p, 0x19#8, v)
  | .enterSafe p v => some (p, 0x1A#8, v)
  | .profileWrite p v => some (p, 0x20#8, v)
  | .profileConfirm p v => some (p, 0x21#8, v)
  | .profileRead p v => some (p, 0x22#8, v)
  | _ => none

/-- The port whose transaction an event starts or ends; none for the other events. -/
def portOf : Instr → Option PortId
  | .transactionStart p | .frameError p _ | .unknownCommand p _ _ => some p
  | i => (frameOfCommand i).map (·.1)

/-! ### When a device acts -/

/-- A frame that ends now on the port is decoded: RST_N is high and the transaction met no reset (R193). -/
def State.hears (s : State) (p : PortId) : Bool := !s.rst.low && !s.rst.cut.get p

/-- The state after the way out of FAULTED, which every event at a block takes (R151): another one only where the steer
is FAULTED and the four conditions hold. -/
def State.left (s : State) : State := leaveFaulted s.sju.state s

/-! ### Frames -/

/-- The store without the fault list, the one part of it that a fault changes. -/
def Store.rest (p : Store) : Store := { p with faults := [], overflow := false }

/-- The ports without the attention sets, the one part of them that attention changes. -/
def Ports.rest (c : Ports) : Ports := { c with port := c.port.map fun q => { q with attn := 0#8 } }

/-- What no event changes but reset, RUN entry and SAFE entry, the ends of START, and the commands of the ports and of
the profile: parameters, reset line, queue, mode and profile, and the ports but for attention. -/
abbrev State.keeps (s t : State) : Prop :=
  t.prm = s.prm ∧ t.loaded = s.loaded ∧ t.rst = s.rst ∧ t.pending = s.pending ∧ t.pfs.rest = s.pfs.rest ∧
    t.cp.rest = s.cp.rest

/-- As `keeps`, for an event that is no sampling event: the whole image stays too. -/
abbrev State.keepsImage (s t : State) : Prop := t.sa = s.sa ∧ s.keeps t

/-- No block of the chassis moved; at most a pass was requested. -/
abbrev State.still (s t : State) : Prop :=
  t.sa = s.sa ∧ t.shc = s.shc ∧ t.dcu = s.dcu ∧ t.lvu = s.lvu ∧ t.kns = s.kns ∧ t.bdu = s.bdu ∧ t.sju = s.sju ∧
    t.pfu = s.pfu ∧ t.ciu = { s.ciu with pass := t.ciu.pass, again := t.ciu.again }

/-- No block of the chassis moved, but for the steer on its way out of FAULTED (R151). -/
abbrev State.unmoved (s t : State) : Prop := s.left.still t

/-- What a command on port `p` leaves as it was, whatever it does to the chassis: parameters, reset line, queue, mode,
profile, drive indications, and the other ports but for attention. -/
abbrev State.keepsOthers (p : PortId) (s t : State) : Prop :=
  t.prm = s.prm ∧ t.loaded = s.loaded ∧ t.rst = s.rst ∧ t.pending = s.pending ∧ t.pfs.rest = s.pfs.rest ∧
    t.cp.retarder = s.cp.retarder ∧ t.cp.engaged = s.cp.engaged ∧ t.cp.driveLeft = s.cp.driveLeft ∧
    ∀ q, q ≠ p → (t.cp.port.get q).reply = (s.cp.port.get q).reply ∧ (t.cp.port.get q).shift = (s.cp.port.get q).shift ∧
      (t.cp.port.get q).silence = (s.cp.port.get q).silence ∧ (t.cp.port.get q).silent = (s.cp.port.get q).silent

/-- The port holds this reply, its transaction has ended and its silence is over (R182, R190). -/
abbrev State.answered (t : State) (p : PortId) (cmd : Byte) (r : Result) (payload : List Byte) : Prop :=
  (t.cp.port.get p).reply = some ⟨t.status p, cmd, r, payload⟩ ∧ (t.cp.port.get p).shift = none ∧
    (t.cp.port.get p).silent = false ∧ (t.cp.port.get p).silence = some (t.prm.ports.silence.get p)

/-- A command on port `p` that is answered without an effect: beyond the port's own reply, timer and attention set, only
a silence of the port ends, with its fault condition (R190). -/
abbrev State.onlyAnswered (p : PortId) (s t : State) : Prop :=
  s.still t ∧ t.prm = s.prm ∧ t.loaded = s.loaded ∧ t.rst = s.rst ∧ t.pending = s.pending ∧
    t.pfs = (hear p s).pfs ∧ t.cp.retarder = s.cp.retarder ∧ t.cp.engaged = s.cp.engaged ∧
    t.cp.driveLeft = s.cp.driveLeft ∧ ∀ q, q ≠ p → t.cp.port.get q = s.cp.port.get q

/-- A command on port `p` that reads, or is refused: as `onlyAnswered`, and the port's own attention set stays too
(R191). -/
abbrev State.onlyRead (p : PortId) (s t : State) : Prop :=
  s.onlyAnswered p t ∧ (t.cp.port.get p).attn = (s.cp.port.get p).attn

/-- A raised fault stands in the list: its entry is ACTIVE, or it found no place and the overflow flag is set (R201). -/
def State.reports (s : State) (kind : FaultKind) (source : Nat) : Bool :=
  s.pfs.overflow || s.pfs.faults.any fun e => e.is kind source && e.active

/-- No entry of this kind and source is ACTIVE. -/
def State.ended (s : State) (kind : FaultKind) (source : Nat) : Bool :=
  s.pfs.faults.all fun e => !(e.is kind source && e.active)

/-- Every port that subscribes to the kind has it in its attention set (R191). -/
def State.attended (s : State) (k : Attention) : Bool :=
  PortId.all.all fun p => (k.bit &&& s.prm.ports.subscription.get p &&& ~~~(s.cp.port.get p).attn) == 0#8

/-- What an event that gave the image of `t` did to the hold: R51 and R60 at an update of VSPD, and then at most the
return of a hold to APPLYING (R55, R59). A creep raise that it starts stands in the fault list. -/
abbrev State.holdFollows (s t : State) : Prop :=
  let h := (if s.sa.image.vspd.changed t.sa.image.vspd then holdSpeedUpdate (s.withSa t.sa) else s).shc
  (t.shc = h ∨ ((h.state = .applied ∨ h.state = .releasing) ∧ t.shc.state = .applying)) ∧
    (h.creep = true → s.shc.creep = false → t.reports .holdCreep 21 = true)

/-- The SENSOR_LOST report of a record that went from `old` to `new`, in an event that ended in `t` (R9, R15, R17, R19,
R20): raised on entry to LOST after START, ended on becoming usable. -/
abbrev State.lossReported (s t : State) (id : Nat) (old new : Rec) : Prop :=
  (old.validity ≠ .lost → new.validity = .lost → s.pfs.mode ≠ .start → t.reports .sensorLost id = true) ∧
    (old.validity = .lost → new.validity ≠ .lost → t.ended .sensorLost id = true)

/-- No trip, no loss of RST, no floor and no lock cause is left for the reactions of an event that began in `s0`. -/
def State.settled (s0 s : State) : Bool :=
  !s.tripDue && (Axle.all.all fun x => !causesTouched s0 s x) && !actuatorFailed s0 s && s.floorsSound && !autoRaiseDue s0 s &&
    decide (steerReact s0.sju.state s = s)

end Sys2Proof.Machine
end

