-- ==== Sys2Proof/WellFormed.lean ====
section
/-! DEFINITION. Which terms of `Instr` are commands that the device can meet: raw samples in the range of R4, times
inside the present millisecond, payloads that a frame can carry, and each form of a command under its own
constructor. -/

namespace Sys2Proof

/-- A converter code 0..4095, or a missing sample (R4). -/
def analogue : Reading → Bool
  | none => true
  | some r => decide (r ≤ 4095)

/-- A payload that a frame can carry (R181). -/
def carried (payload : List Byte) : Bool := decide (payload.length ≤ 48)

/-- The payload's first byte is this operand. -/
def selects (operand : Nat) (payload : List Byte) : Bool :=
  decide (payload.length ≠ 0) && decide (Machine.byteAt payload 0 = operand)

/-- The bytes of a transaction make no valid frame. -/
def malformed (rx : List Byte) : Bool :=
  match Machine.frameOf rx with
  | .nothing | .bad _ => true
  | .valid _ _ => false

def Instr.wellFormed : Instr → Bool
  | .heightSample raw | .bellowsSample raw => raw.toList.all analogue
  | .pairSample brp art1 art2 rst1 rst2 => brp.toList.all analogue && [art1, art2, rst1, rst2].all analogue
  | .vsupSample raw => analogue raw
  | .wheelSpeedEvaluation _ usec | .wheelSpeedPulseEdge _ usec => decide (usec < 1000)
  | .frameBoundary g order => decide (g = .brk) || decide (order = .holdFirst)
  | .frameError _ rx => malformed rx
  | .unknownCommand _ cmd payload => carried payload && (Machine.cmdOf cmd).isNone
  | .holdApply _ payload | .doorOpen _ payload => carried payload && !selects 1 payload
  | .holdRelease _ payload | .doorClose _ payload | .halt _ payload => carried payload && selects 1 payload
  | .heightModeNormal _ payload => carried payload && selects 0 payload
  | .heightModeRaised _ payload => carried payload && !selects 0 payload
  | .kneel _ payload => carried payload && !selects 1 payload && !selects 2 payload
  | .raise _ payload => carried payload && selects 2 payload
  | .setMask _ payload | .readLevel _ payload | .brakeDemand _ payload | .readBrake _ payload | .readSteer _ payload
  | .rearm _ payload | .nop _ payload | .readStatus _ payload | .readImage _ payload | .readAttention _ payload
  | .readFaults _ payload | .readPermissions _ payload | .driveStatus _ payload | .clearFault _ payload
  | .clearDoubt _ payload | .enterSafe _ payload | .profileWrite _ payload | .profileRead _ payload
  | .profileConfirm _ payload => carried payload
  | .powerOn | .rstN | .rstNAsserted | .holdWindowExpiry _ | .pairHoldTimerExpiry _ | .portRSpeedExpiry
  | .driveIndicationExpiry | .passEnd | .applyingTimerExpiry | .quietTimerExpiry | .doorSettle _ _
  | .closedSwitchMake _ | .closedSwitchBreak _ | .edgeSwitchPress _ | .edgeSwitchRelease _ | .phaseTimerExpiry _
  | .proofTimerExpiry _ | .levellingComputation | .loweringTimerExpiry | .raisingTimerExpiry | .demandExpiry _
  | .modulatorComputation | .deviationTimerExpiry _ | .steerUpdate | .settleTimerExpiry | .centringTimerExpiry
  | .trackingTimerExpiry | .jointComputation | .starvationTimerExpiry _ | .driverDiagReport _ _
  | .transactionStart _ | .silenceTimerExpiry _ | .startUpTimerExpiry | .integrityTimerExpiry | .driverDiagCleared _
  | .doorSwitchSample _ _ => true

end Sys2Proof
end

