-- ==== Sys2Proof/Certificates/Slice0/Obligations.lean ====
section
/-! DEFINITION. The statements for the provers, in the order of OBLIGATIONS.json. Unless a statement says otherwise it is
about a device that RST_N does not hold in reset. -/

open Sys2Proof Sys2Proof.Machine


/-- A step runs the command at the front of the queue (spec/00 section 4.5). -/
def Obligations.StepRunsTheFrontCommand : Prop :=
  ∀ (c : Instr) (rest : List Instr) (s : State), s.pending = c :: rest → step s = exec c (s.withPending rest)

/-- Every event and every command has a next state. Model's choices in it: log entries 4, 39 (spec/00 section 4.5). -/
def Obligations.EventsAlwaysComplete : Prop :=
  ∀ (c : Instr) (s : State), ∃ t, exec c s = .next t

/-- On an empty queue one millisecond passes: ages, timers and the time since reset (log entry 1). Model's choices in
it: log entries 1, 31 (spec/01 section 1.3, spec/11 section 11.3, spec/07 section 7.2). -/
def Obligations.OneMillisecondPasses : Prop :=
  ∀ (s : State), s.pending = [] → s.rst.low = false → ∃ t, step s = .next t ∧
    (∀ id : Fin 28,
      (t.sa.image.byId id).age = min 65535 ((s.sa.image.byId id).age + 1) ∧
      (t.sa.image.byId id).value = (s.sa.image.byId id).value ∧
      (t.sa.image.byId id).validity = (s.sa.image.byId id).validity ∧
      (t.sa.image.byId id).source = (s.sa.image.byId id).source ∧
      (t.sa.image.byId id).last = (s.sa.image.byId id).last ∧
      (t.sa.image.byId id).hold = (s.sa.image.byId id).hold.map (· - 1)) ∧
    t.sa = { s.sa with
      image := t.sa.image, portSpeedLeft := s.sa.portSpeedLeft.map (· - 1), usTime := s.sa.usTime + 1000 } ∧
    t.pfs = { s.pfs with
      startUp := s.pfs.startUp.map (· - 1), integrity := s.pfs.integrity.map (· - 1),
      timeMs := min 4294967295 (s.pfs.timeMs + 1) } ∧
    t.shc = { s.shc with quiet := s.shc.quiet.map (· - 1), applying := s.shc.applying.map (· - 1) } ∧
    (∀ d : Door, t.dcu.get d = { s.dcu.get d with
      phaseTimer := (s.dcu.get d).phaseTimer.map (· - 1), proofTimer := (s.dcu.get d).proofTimer.map (· - 1) }) ∧
    t.kns = { s.kns with lowering := s.kns.lowering.map (· - 1), raising := s.kns.raising.map (· - 1) } ∧
    (∀ src : DemandSource, (t.bdu.demandOf src).pressure = (s.bdu.demandOf src).pressure ∧
      (t.bdu.demandOf src).left =
        if 1 < (s.bdu.demandOf src).left then (s.bdu.demandOf src).left - 1 else (s.bdu.demandOf src).left) ∧
    t.bdu = { s.bdu with
      service := t.bdu.service, intervention := t.bdu.intervention,
      deviation := .ofFn fun x => (s.bdu.deviation.get x).map (· - 1) } ∧
    t.sju = { s.sju with
      centring := s.sju.centring.map (· - 1), settle := s.sju.settle.map (· - 1),
      tracking := s.sju.tracking.map (· - 1) } ∧
    (∀ g : FrameGroup, t.pfu.group.get g = { s.pfu.group.get g with
      starve := (s.pfu.group.get g).starve.map (· - 1) }) ∧
    t.pfu = { s.pfu with group := t.pfu.group } ∧
    (∀ p : PortId, t.cp.port.get p = { s.cp.port.get p with silence := (s.cp.port.get p).silence.map (· - 1) }) ∧
    t.cp = { s.cp with port := t.cp.port, driveLeft := s.cp.driveLeft.map (· - 1) } ∧
    t.ciu = s.ciu ∧ t.lvu = s.lvu ∧ t.prm = s.prm ∧ t.loaded = s.loaded ∧ t.rst = s.rst ∧ t.pending = []

/-- POWER_ON and RST_N put every block into its reset state; no frame of a transaction that met a reset is decoded.
Model's choices in it: log entries 3, 4, 5, 53 (spec/10 section 10.7, spec/11 section 11.4). -/
def Obligations.ResetEventsTakeTheDeviceToReset : Prop :=
  ∀ (s : State),
    let cut : PerPort Bool := .ofFn fun p => s.rst.cut.get p || (s.cp.port.get p).shift.isSome
    (s.rst.low = false → exec .powerOn s = .next (State.resetWith .power ⟨false, false, cut⟩ s.pending)) ∧
    (s.rst.low = true → exec .powerOn s = .next { s with rst := ⟨true, true, s.rst.cut⟩ }) ∧
    exec .rstN s = .next (State.resetWith (if s.rst.supplyUp then .power else .line) ⟨false, false, cut⟩ s.pending) ∧
    (∃ t, exec .rstNAsserted s = .next t ∧ t.rst = ⟨true, s.rst.supplyUp, cut⟩ ∧
      (∀ p : PortId, t.cp.port.get p = { s.cp.port.get p with shift := none }) ∧
      t = { s with rst := t.rst, cp := { s.cp with port := t.cp.port } }) ∧
    (∀ p : PortId,
      (s.rst.low = true →
        exec (.transactionStart p) s = .next { s with rst := { s.rst with cut := s.rst.cut.set p true } }) ∧
      (∀ (i : Instr) (code : Byte) (payload rx : List Byte), frameOfCommand i = some (p, code, payload) →
        ∀ e ∈ [i, .frameError p rx, .unknownCommand p code payload],
          (s.rst.cut.get p = true → exec e s = .next { s with rst := { s.rst with cut := s.rst.cut.set p false } }) ∧
          (s.rst.cut.get p = false → s.rst.low = true → exec e s = .next s))) ∧
    (∀ e : Instr, s.rst.low = true → portOf e = none → e ∉ [.powerOn, .rstN, .rstNAsserted] → exec e s = .next s) ∧
    (s.rst.low = true → s.pending = [] → step s = .next s)

/-- What a reset leaves in every block (spec/01 section 1.9, spec/02 section 2.8, spec/03 section 3.6, spec/04 section
4.11, spec/05 section 5.6, spec/06 section 6.10, spec/07 section 7.9, spec/08 section 8.8, spec/09 section 9.7,
spec/10 section 10.7, spec/11 section 11.4). -/
def Obligations.ResetLeavesTheStatedValues : Prop :=
  ∀ (cause : ResetCause) (line : ResetLine) (queue : List Instr) (s : State), s = State.resetWith cause line queue →
    (∀ id : Fin 28, (s.sa.image.byId id).value = 0 ∧ (s.sa.image.byId id).validity = .lost ∧
      (s.sa.image.byId id).age = 65535 ∧ (s.sa.image.byId id).source = .primary ∧ (s.sa.image.byId id).last = 0 ∧
      (s.sa.image.byId id).hold = none) ∧
    (∀ i : Corner, s.sa.hgtWin.get i = [] ∧ s.sa.prsWin.get i = []) ∧
    s.sa.artDisagree = false ∧ s.sa.rstDisagree = false ∧ s.sa.artHist = [] ∧ s.sa.portSpeed = 0 ∧
    s.sa.portSpeedLeft = none ∧ s.vsupLow = true ∧ s.prm = .unloaded ∧ s.loaded = false ∧
    s.ciu = ⟨0#16, .none, .none, 0#16, none, false, 0#16⟩ ∧ s.conds = List.replicate 16 ⟨false, false, false, true⟩ ∧
    s.shc.state = .released ∧ s.shc.pendingApply = false ∧ s.shc.floor = ⟨0, 0, 0⟩ ∧ s.shc.creep = false ∧
    s.shc.quiet = none ∧ s.shc.applying = none ∧ s.shc.notReached = ⟨false, false, false⟩ ∧
    s.inhibit = true ∧ s.inhibitCauses = ⟨true, false, false, ⟨true, true, true, true⟩⟩ ∧
    (∀ d : Door, (s.dcu.get d).phase = .unsettled ∧ (s.dcu.get d).closed = .undetermined ∧
      (s.dcu.get d).pressed = false ∧ s.releaseOutput d = false ∧ (s.dcu.get d).phaseTimer = none ∧
      (s.dcu.get d).proofTimer = none ∧ (s.dcu.get d).forced = false ∧ (s.dcu.get d).proofTimeout = false ∧
      (s.dcu.get d).moving = false) ∧
    s.lvu.heightMode = .normal ∧ (∀ i : Corner, s.lvu.target.get i = 0 ∧ s.rideTarget i = 0) ∧
    (List.range 12).map s.maskEntry =
      [0x3F#6, 0#6, 0x3F#6, 0x3F#6, 0x3F#6, 0#6, 0x15#6, 0x2A#6, 0x03#6, 0x0C#6, 0x30#6, 0x0F#6] ∧
    s.lvu.record.num = 0#16 ∧ s.lvu.record.error = ⟨0, 0, 0, 0, 0, 0⟩ ∧ s.lvu.record.demand = ⟨0, 0, 0, 0, 0, 0⟩ ∧
    s.lvu.record.actMask = 0#6 ∧ s.lvu.record.pauseSet = 0#6 ∧ s.lvu.record.speed = .motion ∧
    s.kns.state = .ride ∧ s.kns.kind = .front ∧ s.kns.lowering = none ∧ s.kns.raising = none ∧ s.kns.freeze = false ∧
    s.kns.pauseSet = 0#6 ∧ s.kns.kneelTimeouts = 0#6 ∧ s.kns.raiseTimeouts = 0#6 ∧
    (∀ src : DemandSource, (s.bdu.demandOf src).pressure = ⟨0, 0, 0⟩ ∧ (s.bdu.demandOf src).left = 0) ∧
    (∀ x : Axle, s.bdu.ratio.get x = 1024 ∧ s.setpoint x = 0 ∧ s.saturated x = false ∧ s.abandoned x = false ∧
      s.backupEnergized x = false ∧ s.bdu.deviation.get x = none ∧ s.bdu.deviating.get x = false ∧
      s.bdu.last.get x = ⟨0, 0, 0⟩) ∧ s.brakeActive = false ∧ s.bdu.compNum = 0#16 ∧
    s.sju.state = .centring ∧ s.sju.angle = 0 ∧ s.sju.target = 0 ∧ s.sju.gain = 0 ∧ s.sju.centring = some 3000 ∧
    s.sju.settle = none ∧ s.sju.tracking = none ∧ s.steerEnergized = false ∧ s.sju.damping = ⟨1000, 0, 0, 0, 0, 0⟩ ∧
    s.sju.centringTimeout = false ∧ s.sju.trackingError = false ∧ s.sju.steerNum = 0#16 ∧ s.sju.jointNum = 0#16 ∧
    s.lockCauses = ⟨true, false, false, true, true, true, true⟩ ∧
    (∀ k : Chan, (s.pfu.chan.get k).state = .idle ∧ (s.pfu.chan.get k).cause = none ∧ (s.pfu.chan.get k).trips = 0 ∧
      (s.prm.frames.sel.get k).members = [false, false, false, false] ∧ s.driveAt k 0 = 0) ∧
    s.pfu.staged = .zero ∧ s.pfu.active = .zero ∧ s.pfu.owed = false ∧ s.prm.frames.deadTime = 0 ∧
    s.pfu.group = ⟨⟨false, some 30, false, 0#16⟩, ⟨false, some 300, false, 0#16⟩, ⟨false, some 6, false, 0#16⟩⟩ ∧
    (∀ p : PortId, s.cp.port.get p = ⟨none, none, 0#8, some 1000, false⟩ ∧
      s.prm.ports.subscription.get p = 0xC0#8 ∧ s.prm.ports.silence.get p = 1000) ∧
    s.cp.retarder = false ∧ s.cp.engaged = false ∧ s.cp.driveLeft = none ∧
    s.pfs.mode = .start ∧ s.pfs.startUp = some 500 ∧ s.pfs.integrity = none ∧
    (∀ a : Fin 1130, s.pfs.profile.read a = 0#8) ∧ s.pfs.confirmF = false ∧ s.pfs.confirmB = false ∧
    s.pfs.recorded = 0#16 ∧ s.pfs.recordedSections = List.replicate 11 0#16 ∧ s.pfs.faults = [] ∧
    s.pfs.overflow = false ∧ s.faultPresent = false ∧ s.pfs.timeMs = 0 ∧ s.pfs.cause = cause

/-- Every invariant holds in the state after reset (spec/05 section 5.3, spec/08 section 8.2, spec/11 section 11.3). -/
def Obligations.InvariantsHoldAfterReset : Prop :=
  State.reset.profileSound = true ∧ State.reset.faultsSound = true ∧ State.reset.masksSound = true ∧
  State.reset.angleSound = true ∧ State.reset.floorsSound = true ∧ State.reset.freeSound = true ∧
  State.reset.kneelSteerSound = true ∧ State.reset.holdSound = true ∧ State.reset.demandsSound = true ∧
  State.reset.consumersSound = true ∧ State.reset.tripsSound = true ∧ State.reset.bridgeSound = true ∧
  State.reset.abandonSound = true ∧ State.reset.ratioSound = true ∧ State.reset.movingSound = true

/-- The fault list never exceeds 24 entries and never holds two of one kind and source (spec/11 section 11.3). -/
def Obligations.FaultListStaysSound : Prop :=
  ∀ (s : State), s.faultsSound = true → ∀ t, step s = .next t → t.faultsSound = true

/-- Mask entry 1 stays a subset of mask entry 2 (spec/05 section 5.3). -/
def Obligations.KneelSetStaysWithinLevellingSet : Prop :=
  ∀ (s : State), s.masksSound = true → ∀ t, step s = .next t → t.masksSound = true

/-- A permission is published set only while its hardware floor holds, after every step (spec/02 section 2.6). -/
def Obligations.NoPermissionStandsAgainstItsFloor : Prop :=
  ∀ (s : State), s.floorsSound = true → ∀ t, step s = .next t → t.floorsSound = true ∧
    ∀ d : Door, t.ciu.perms.door.get d = true →
      t.shc.state = .applied ∧ t.sa.image.vspd.validity ≠ .lost ∧ t.sa.image.vspd.value ≤ 300

/-- FREE implies that no lock cause is present, after every step (spec/08 section 8.2). -/
def Obligations.SteerIsFreeOnlyWithoutLockCause : Prop :=
  ∀ (s : State), s.freeSound = true → ∀ t, step s = .next t → t.freeSound = true ∧
    (t.sju.state = .free → t.pfs.mode = .run ∧ t.shc.state = .released ∧ t.kns.state = .ride ∧
      t.ciu.perms.steerFree = true ∧ t.sa.image.art.validity ≠ .lost ∧ t.sa.image.rst.validity ≠ .lost ∧
      t.sa.image.vspd.validity ≠ .lost ∧ t.sa.image.vspd.value ≤ t.prm.steer.lockSpeed)

/-- While the kneel state is not RIDE, the steer is LOCKED or FAULTED, after every step (spec/08 section 8.3). -/
def Obligations.KneelKeepsTheSteerLocked : Prop :=
  ∀ (s : State), s.floorsSound = true → s.kneelSteerSound = true → ∀ t, step s = .next t → t.kneelSteerSound = true

/-- The commanded angle is 0 in LOCKED and FAULTED, after every step (spec/08 section 8.4). -/
def Obligations.CommandedAngleIsZeroWhenLockedOrFaulted : Prop :=
  ∀ (s : State), s.angleSound = true → ∀ t, step s = .next t → t.angleSound = true

/-- The stored profile stays canonical; where each parameter stands in its bytes, and which ranges and cross checks fail
a section (spec/11 section 11.1, spec/02 section 2.1, spec/02 section 2.4, spec/03 section 3.1, spec/05 section 5.4,
spec/06 section 6.2, spec/07 section 7.1, spec/08 section 8.1, spec/09 section 9.1). -/
def Obligations.ProfileStaysCanonicalWithinItsBytes : Prop :=
  (∀ (s : State), s.profileSound = true → ∀ t, step s = .next t → t.profileSound = true) ∧
  crc16 [] = 0xFFFF#16 ∧
  (∀ (bs : List Byte) (b : Byte), crc16 (bs ++ [b]) =
    (List.range 8).foldl (fun c _ => if c.msb then (c <<< 1) ^^^ 0x1021#16 else c <<< 1)
      (crc16 bs ^^^ (b.zeroExtend 16 <<< 8))) ∧
  (∀ (m : Memory),
    let lengths := [210, 128, 386, 6, 126, 34, 54, 162, 0, 12, 12]
    let place := fun sec : Nat => (lengths.take sec).sum
    let u := fun sec k : Nat => (m.read (place sec + 2 * k)).toNat * 256 + (m.read (place sec + 2 * k + 1)).toNat
    let n := fun sec k : Nat => if u sec k < 32768 then (u sec k : Int) else (u sec k : Int) - 65536
    let band := fun i : Nat => (⟨n 0 (4 * i), n 0 (4 * i + 1), n 0 (4 * i + 2), n 0 (4 * i + 3)⟩ : Band)
    let within := fun lo hi x : Int => lo ≤ x ∧ x ≤ hi
    profileCheck m = crc16 ((List.range 1130).map m.read) ∧
    sectionChecks m = (List.range 11).map (fun sec =>
      crc16 ((List.range (lengths.getD sec 0)).map fun j => m.read (place sec + j))) ∧
    readParams m =
      { signals :=
          { hgt := .ofFn fun i => band i.num, prs := .ofFn fun i => band (6 + i.num)
            brp := .ofFn fun x => band (12 + x.num), art1 := band 15, art2 := band 16, rst1 := band 17, rst2 := band 18
            wsp := .ofFn fun w => { band (19 + w.num) with
              rawLow := u 0 (76 + 4 * w.num), rawHigh := u 0 (77 + 4 * w.num) }
            vsup := band 23, artTol := n 0 96, rstTol := n 0 97, aeff := ⟨n 0 98, n 0 99, n 0 100⟩
            unsprung := ⟨n 0 101, n 0 102, n 0 103⟩, vsupLow := n 0 104 }
        slots := (List.range 16).map fun k =>
          ⟨if n 1 (4 * k) = 255 then none else some (n 1 (4 * k)).toNat, n 1 (4 * k + 1), n 1 (4 * k + 2),
            decide (n 1 (4 * k + 3) = 1)⟩
        gates := (List.range (n 2 0).toNat).map fun k =>
          ⟨(n 2 (1 + 4 * k)).toNat, (n 2 (2 + 4 * k)).toNat, (n 2 (3 + 4 * k)).toNat, (n 2 (4 + 4 * k)).toNat⟩
        level :=
          { coupling := .ofFn fun i => .ofFn fun j => n 4 (6 * i.num + j.num), kfill := .ofFn fun i => n 4 (36 + i.num)
            kvent := .ofFn fun i => n 4 (42 + i.num), dbStand := n 4 48, dbDrive := n 4 49, minPulse := n 4 50
            maxWidthStand := n 4 51, maxWidthDrive := n 4 52, stagger := n 4 53, raiseHeight := n 4 54 }
        kneel :=
          { curbSide := if n 4 55 = 0 then .left else .right, kneelDepth := n 4 56, kneelTol := n 4 57, rideTol := n 4 58
            lowerTime := (n 4 59).toNat, raiseTime := (n 4 60).toNat, twistLimit := n 4 61
            autoRaise := decide (n 4 62 = 1) }
        brake :=
          { ladenRef := ⟨n 5 0, n 5 1, n 5 2⟩, rMin := ⟨n 5 3, n 5 4, n 5 5⟩, pMax := ⟨n 5 6, n 5 7, n 5 8⟩
            dbBrake := n 5 9, kin := ⟨n 5 10, n 5 11, n 5 12⟩, kex := ⟨n 5 13, n 5 14, n 5 15⟩, minPulse := n 5 16 }
        steer :=
          { lockSpeed := n 6 0, table := (List.range 8).map fun k => (n 6 (1 + k), n 6 (9 + k)), polarity := n 6 17
            maxAngle := n 6 18, rate := n 6 19, kp := n 6 20, dMax := n 6 21, dBase := n 6 22, kj := n 6 23
            dRet := n 6 24, angleLimit := n 6 25, dLim := n 6 26 }
        frames :=
          { deadTime := (n 7 0).toNat
            sel := .ofFn fun k =>
              ⟨decide (n 7 (1 + 4 * k.num) = 1), decide (n 7 (2 + 4 * k.num) = 1), decide (n 7 (3 + 4 * k.num) = 1),
                if n 7 (4 + 4 * k.num) = 255 then none else some (n 7 (4 + 4 * k.num)).toNat⟩ }
        hold := ⟨⟨n 9 0, n 9 1, n 9 2⟩, n 9 3, n 9 4, n 9 5⟩
        ports :=
          ⟨⟨(n 10 0).toNat, (n 10 1).toNat, (n 10 2).toNat⟩,
            ⟨BitVec.ofNat 8 (u 10 3), BitVec.ofNat 8 (u 10 4), BitVec.ofNat 8 (u 10 5)⟩⟩ } ∧
    (∀ k < 3, readMask m k = BitVec.ofNat 6 (u 3 k)) ∧
    (let valid := fun sec : Nat =>
       (sec = 0 → (∀ i < 24,
           let wheel := 19 ≤ i ∧ i ≤ 22
           let top : Int := if wheel then 65535 else 4095
           let low := if wheel then (u 0 (4 * i) : Int) else n 0 (4 * i)
           let high := if wheel then (u 0 (4 * i + 1) : Int) else n 0 (4 * i + 1)
           low ≤ high ∧ within 0 top low ∧ within 0 top high ∧ within 0 4095 (n 0 (4 * i + 2)) ∧
             within (-8192) 8192 (n 0 (4 * i + 3)) ∧ n 0 (4 * i + 3) ≠ 0) ∧
         within 0 2000 (n 0 96) ∧ within 0 500 (n 0 97) ∧
         (∀ k < 3, within 100 1500 (n 0 (98 + k)) ∧ within 0 3000 (n 0 (101 + k))) ∧ within 0 6000 (n 0 104)) ∧
       (sec = 1 → ∀ k < 16, (within 0 27 (n 1 (4 * k)) ∨ n 1 (4 * k) = 255) ∧ within (-20000) 20000 (n 1 (4 * k + 1)) ∧
         within 0 2000 (n 1 (4 * k + 2)) ∧ within 0 1 (n 1 (4 * k + 3))) ∧
       (sec = 2 → within 0 48 (n 2 0) ∧ ∀ k : Nat, k < 48 → (k : Int) < n 2 0 → within 0 7 (n 2 (1 + 4 * k)) ∧
         within 0 112 (n 2 (2 + 4 * k)) ∧ within 0 112 (n 2 (3 + 4 * k)) ∧ within 88 112 (n 2 (4 + 4 * k))) ∧
       (sec = 3 → ∀ k < 3, u 3 k ≤ 63) ∧
       (sec = 4 → (∀ k < 36, within (-2048) 2047 (n 4 k)) ∧ (∀ k < 12, within 1 255 (n 4 (36 + k))) ∧
         within 10 300 (n 4 48) ∧ within 10 300 (n 4 49) ∧ within 5 100 (n 4 50) ∧ within (n 4 50) 1000 (n 4 51) ∧
         within (n 4 50) 1000 (n 4 52) ∧ within 0 150 (n 4 53) ∧ within 0 1000 (n 4 54) ∧ within 0 1 (n 4 55) ∧
         within (-1200) 0 (n 4 56) ∧ within 20 200 (n 4 57) ∧ within 20 200 (n 4 58) ∧ within 3000 20000 (n 4 59) ∧
         within 3000 20000 (n 4 60) ∧ within 50 1000 (n 4 61) ∧ within 0 1 (n 4 62)) ∧
       (sec = 5 → (∀ k < 3, within 2000 20000 (n 5 k) ∧ within 205 1024 (n 5 (3 + k)) ∧ within 300 1000 (n 5 (6 + k))) ∧
         within 5 50 (n 5 9) ∧ (∀ k < 6, within 1 255 (n 5 (10 + k))) ∧ within 5 100 (n 5 16)) ∧
       (sec = 6 → within 500 6000 (n 6 0) ∧ (∀ k < 8, within 0 15000 (n 6 (1 + k)) ∧ within 0 2048 (n 6 (9 + k))) ∧
         (∀ k < 7, n 6 (1 + k) < n 6 (2 + k)) ∧ (n 6 17 = 1 ∨ n 6 17 = -1) ∧ within 0 1200 (n 6 18) ∧
         within 1 50 (n 6 19) ∧ within 1 1024 (n 6 20) ∧ within 0 1000 (n 6 21) ∧ n 6 21 ≤ 1000 - 2 * n 7 0 ∧
         within 0 1000 (n 6 22) ∧ within 0 2048 (n 6 23) ∧ within 0 1000 (n 6 24) ∧ within 0 5500 (n 6 25) ∧
         within 0 1000 (n 6 26)) ∧
       (sec = 7 → within 0 50 (n 7 0) ∧ ∀ k < 20, (∀ j < 3, within 0 1 (n 7 (1 + 4 * k + j))) ∧
         (within 0 82 (n 7 (4 + 4 * k)) ∨ within 87 112 (n 7 (4 + 4 * k)) ∨ n 7 (4 + 4 * k) = 255)) ∧
       (sec = 9 → (∀ k < 3, within 0 1000 (n 9 k) ∧ n 9 k ≤ n 5 (6 + k)) ∧ (∃ k < 3, 0 < n 9 k) ∧
         within 100 500 (n 9 3) ∧ within 10 100 (n 9 4) ∧ within 10 200 (n 9 5)) ∧
       (sec = 10 → ∀ k < 3, within 50 1000 (n 10 k) ∧ within 0 255 (n 10 (3 + k)))
     (∀ sec, failingSection m = some sec ↔ sec < 11 ∧ ¬ valid sec ∧ ∀ j < sec, valid j) ∧
     (failingSection m = none ↔ ∀ sec < 11, valid sec)))

/-- The effective floors are those of the hold state, and outside RUN the hold is RELEASED, after every step (spec/03
section 3.1, spec/03 section 3.2, spec/03 section 3.4). -/
def Obligations.HoldFloorsFitTheHoldState : Prop :=
  ∀ (s : State), s.holdSound = true → ∀ t, step s = .next t → t.holdSound = true

/-- The hold enters RELEASING only with all doors SHUT, the kneel at RIDE and P_HOLD_RELEASE set (spec/03 section 3.3). -/
def Obligations.HoldReleasesOnlyWhenTheStopIsUndone : Prop :=
  ∀ (s : State), ∀ t, step s = .next t → s.shc.state ≠ .releasing → t.shc.state = .releasing →
    s.pfs.mode = .run ∧ (s.shc.state = .applying ∨ s.shc.state = .applied) ∧
      (∀ d : Door, (s.dcu.get d).phase = .shut) ∧ s.kns.state = .ride ∧ s.ciu.perms.holdRelease = true

/-- A door is released only from SHUT, in RUN, on a held and slow bus; RELEASED, LOWERING, RELEASING and RAISED stand
only under their permissions (spec/02 section 2.6, spec/03 section 3.3, spec/04 section 4.4, spec/04 section 4.8,
spec/05 section 5.2, spec/06 section 6.4). -/
def Obligations.DoorIsReleasedOnlyUnderItsPermission : Prop :=
  (∀ (s : State) (d : Door), s.floorsSound = true → ∀ t, step s = .next t → (s.dcu.get d).phase ≠ .released →
    (t.dcu.get d).phase = .released →
    (s.dcu.get d).phase = .shut ∧ s.pfs.mode = .run ∧ s.ciu.perms.door.get d = true ∧ s.shc.state = .applied ∧
      s.sa.image.vspd.validity ≠ .lost ∧ s.sa.image.vspd.value ≤ 300) ∧
  (∀ (s : State), s.consumersSound = true → ∀ t, step s = .next t → t.consumersSound = true ∧
    (∀ d : Door, (s.dcu.get d).phase = .released → t.ciu.perms.door.get d = false → (t.dcu.get d).phase ≠ .released) ∧
    (s.kns.state = .lowering → t.ciu.perms.kneel = false → t.kns.state ≠ .lowering) ∧
    (s.shc.state = .releasing → t.ciu.perms.holdRelease = false → t.shc.state ≠ .releasing) ∧
    (s.lvu.heightMode = .raised → t.ciu.perms.heightRaised = false → t.lvu.heightMode = .normal))

/-- The kneel leaves RIDE only in RUN with the hold APPLIED and the steer LOCKED (spec/06 section 6.3). -/
def Obligations.KneelLeavesRideOnlyHeldAndLocked : Prop :=
  ∀ (s : State), s.floorsSound = true → ∀ t, step s = .next t → s.kns.state = .ride → t.kns.state ≠ .ride →
    s.pfs.mode = .run ∧ s.ciu.perms.kneel = true ∧ s.shc.state = .applied ∧ s.sju.state = .locked

/-- A channel becomes ARMED only at its boundary or at RUN entry; none stays ARMED with a selected source asserted; a
TRIPPED bridge means FAULTED (spec/09 section 9.1, spec/09 section 9.4, spec/08 section 8.3). -/
def Obligations.ChannelArmsOnlyAtBoundaryOrRunEntry : Prop :=
  (∀ (s : State) (k : Chan), ∀ t, step s = .next t → (s.pfu.chan.get k).state ≠ .armed →
    (t.pfu.chan.get k).state = .armed →
    ((s.pfu.chan.get k).state = .rearmPending ∧ (s.pending.head? = some (.frameBoundary k.group .holdFirst) ∨
      s.pending.head? = some (.frameBoundary k.group .captureFirst))) ∨
      ((s.pfu.chan.get k).state = .idle ∧ s.pfs.mode = .config ∧ t.pfs.mode = .run)) ∧
  (∀ (s : State), s.tripsSound = true → ∀ t, step s = .next t → t.tripsSound = true ∧
    ∀ k : Chan, (t.pfu.chan.get k).state = .armed →
      ((t.selects k).vsup = true → t.vsupLow = false) ∧
      ((t.selects k).diag = true → (t.pfu.chan.get k).overCurrent = false ∧ (t.pfu.chan.get k).openLoad = false) ∧
      ((t.selects k).starved = true → (t.pfu.group.get k.group).starved = false) ∧
      (∀ i, (t.selects k).index = some i → t.source i = false)) ∧
  (∀ (s : State), s.bridgeSound = true → ∀ t, step s = .next t → t.bridgeSound = true ∧
    (t.pfu.chan.bridge.state = .tripped → t.sju.state = .faulted))

/-- The mode moves only START to CONFIG, CONFIG to RUN, and to SAFE; only reset leads to START. Model's choices in it:
log entry 23 (spec/11 introduction). -/
def Obligations.ModeChangesOnlyAsTheSpecAllows : Prop :=
  ∀ (s : State), ∀ t, step s = .next t → t.pfs.mode ≠ s.pfs.mode →
    (((s.pfs.mode = .start ∧ t.pfs.mode = .config) ∨ (s.pfs.mode = .config ∧ t.pfs.mode = .run) ∨ t.pfs.mode = .safe) ∧
        t.attended .modeChanged = true) ∨
      (t.pfs.mode = .start ∧ (s.pending.head? = some .powerOn ∨ s.pending.head? = some .rstN))

/-- The stored profile changes only in CONFIG, or by reset, and with it both confirmations are gone (spec/11 section
11.1, spec/11 section 11.2). -/
def Obligations.ProfileBytesChangeOnlyInConfig : Prop :=
  ∀ (s : State), ∀ t, step s = .next t → t.pfs.profile ≠ s.pfs.profile →
    (s.pending.head? = some .powerOn ∨ s.pending.head? = some .rstN) ∨
      (s.pfs.mode = .config ∧ t.pfs.mode = .config ∧ t.pfs.confirmF = false ∧ t.pfs.confirmB = false)

/-- Load ratios follow their LOAD records but for the freeze; every setpoint lies within 0 and p_max, and under a hold
above the hold floor (spec/07 section 7.3, spec/07 section 7.4, spec/01 section 1.5). -/
def Obligations.SetpointsLieBetweenFloorAndLimit : Prop :=
  (∀ (s : State) (x : Axle), s.holdSound = true → s.loaded = true → 0 ≤ s.bdu.ratio.get x → 0 ≤ s.shc.floor.get x →
    0 ≤ s.prm.hold.floor.get x → s.prm.hold.floor.get x ≤ s.prm.brake.pMax.get x →
    0 ≤ s.setpoint x ∧ s.setpoint x ≤ s.prm.brake.pMax.get x ∧
      ((s.shc.state = .applying ∨ s.shc.state = .applied) → s.prm.hold.floor.get x ≤ s.setpoint x)) ∧
  (∀ (s : State), s.ratioSound = true → ∀ t, step s = .next t → t.ratioSound = true ∧
    ∀ x : Axle,
      (t.loaded = false → t.bdu.ratio.get x = 1024) ∧
      (t.loaded = true → t.kns.freeze = false → (t.sa.image.load.get x).validity = .lost → t.bdu.ratio.get x = 1024) ∧
      (t.loaded = true → t.kns.freeze = false → (t.sa.image.load.get x).validity ≠ .lost →
        t.bdu.ratio.get x = max (t.prm.brake.rMin.get x) (min 1024
          (Int.fdiv ((t.sa.image.load.get x).value * 1024) (t.prm.brake.ladenRef.get x))))) ∧
  (∀ (s : State), (s.pfs.mode = .run ∨ s.pfs.mode = .safe) → s.kns.freeze = true → ∀ t, step s = .next t →
    t.kns.freeze = true → t.bdu.ratio = s.bdu.ratio ∧
    ∀ x : Axle, t.sa.image.load.get x = { s.sa.image.load.get x with
      age := (t.sa.image.load.get x).age, hold := (t.sa.image.load.get x).hold })

/-- The closing of an event: what it reacts to, the passes it requests, and the steer's moves by its lock causes.
Model's choices in it: log entries 6, 7, 8, 22, 49 (spec/02 section 2.5, spec/02 section 2.6, spec/04 section 4.11,
spec/08 section 8.2, spec/08 section 8.3, spec/09 section 9.4). -/
def Obligations.ReactionsActOnlyOnWhatTheEventAsserted : Prop :=
  (∀ (s0 s : State), s.settled s0 = true →
    finish s0 s = settleRequests s0 s ∧
    finish s0 s = { s with
      ciu := { s.ciu with pass := (finish s0 s).ciu.pass, again := (finish s0 s).ciu.again } }) ∧
  (∀ (s0 s : State), ∀ t ∈ [finish s0 s, settleRequests s0 s],
    let asks := s0.stateBits ≠ t.stateBits ∨ s0.conds ≠ t.conds ∨
      (∃ p ∈ s0.floors.members.zip t.floors.members, p = (false, true)) ∨
      ∃ d ∈ Door.all, (s0.dcu.get d).phase = .unsettled ∧ (t.dcu.get d).phase ≠ .unsettled ∧ (t.dcu.get d).phase ≠ .shut
    (asks → t.ciu.pass = some (s.ciu.pass.getD ⟨t.inputs, t.prm.gates⟩) ∧
      (s.ciu.pass.isSome = true → t.ciu.again = true)) ∧
    (¬ asks → t.ciu.pass = s.ciu.pass ∧ t.ciu.again = s.ciu.again)) ∧
  (∀ (was : SteerState) (s : State),
    let t := steerReact was s
    let centring := { s.sju with state := .centring, target := 0, centring := some 3000, settle := none }
    let out := s.sa.image.rst.validity ≠ .lost ∧ s.pfu.chan.bridge.state = .armed ∧ s.lockCaused = true ∧
      s.kns.state = .ride
    (s.sju.state = .free → s.lockCaused = true → t.sju = centring ∧ t.attended .steerStateChanged = true) ∧
    (s.sju.state = .free → s.lockCaused = false → t = s) ∧
    (s.sju.state = .centring ∨ s.sju.state = .locked →
      (s.lockCaused = true → t = s) ∧
      (s.lockCaused = false →
        t.sju = { s.sju with
          state := .free, centring := none, settle := none, centringTimeout := false, trackingError := false,
          tracking := if s.sju.state = .centring then s.sju.tracking else none } ∧
        (s.sju.centringTimeout = true → t.ended .steerCentringTimeout 2 = true) ∧
        (s.sju.trackingError = true → t.ended .steerTrackingError 2 = true) ∧
        t.attended .steerStateChanged = true)) ∧
    (s.sju.state = .faulted →
      (was = .faulted → out → t.sju = centring ∧ t.attended .steerStateChanged = true) ∧
      (¬ (was = .faulted ∧ out) → t = s)) ∧
    t.sa = s.sa ∧ t.ciu = s.ciu ∧ t.shc = s.shc ∧ t.dcu = s.dcu ∧ t.lvu = s.lvu ∧ t.kns = s.kns ∧ t.bdu = s.bdu ∧
      t.pfu = s.pfu ∧ s.keeps t) ∧
  (∀ (s0 s : State),
    let t := finish s0 s
    let u := settleRequests s0 s
    (t.sju.state = .free → t.lockCaused = false) ∧
    (t.sju.state = .centring ∨ t.sju.state = .locked → t.lockCaused = true) ∧
    (s0.sju.state = .faulted → t.centringDue = false) ∧
    u.sju = (if s0.sju.state = .faulted ∧ s.centringDue = true then
      { s.sju with state := .centring, target := 0, centring := some 3000, settle := none } else s.sju))

/-- What the closing of an event cannot touch, and how far it goes in the hold, the kneel, the doors and the channels.
Model's choices in it: log entries 8, 18, 22 (spec/02 section 2.6, spec/06 section 6.5, spec/08 section 8.3, spec/09
section 9.4). -/
def Obligations.ReactionsStayInTheirFrame : Prop :=
  ∀ (s0 s : State), let t := finish s0 s
    s.keepsImage t ∧
    t.lvu = { s.lvu with heightMode := t.lvu.heightMode, target := t.lvu.target } ∧
    t.bdu = { s.bdu with cause := t.bdu.cause, deviation := t.bdu.deviation, deviating := t.bdu.deviating } ∧
    t.pfu.active = s.pfu.active ∧ t.pfu.owed = s.pfu.owed ∧ t.pfu.group.brk = s.pfu.group.brk ∧
    t.pfu.group.lvl = s.pfu.group.lvl ∧ t.pfu.staged = { s.pfu.staged with bridge := t.pfu.staged.bridge } ∧
    t.ciu.latches = s.ciu.latches ∧ t.ciu.results = s.ciu.results ∧ t.ciu.scratch = s.ciu.scratch ∧
    t.ciu.perms.and s.ciu.perms = t.ciu.perms ∧
    (∀ k : Chan, t.pfu.chan.get k = s.pfu.chan.get k ∨
      ((s.pfu.chan.get k).state = .armed ∧ (t.pfu.chan.get k).state = .tripped)) ∧
    (∀ d : Door, (t.dcu.get d).phase = (s.dcu.get d).phase ∨
      ((s.dcu.get d).phase = .released ∧ (t.dcu.get d).phase = .shut)) ∧
    (t.shc = s.shc ∨ ((s.shc.state = .applied ∨ s.shc.state = .releasing) ∧ t.shc.state = .applying)) ∧
    (t.kns.state = s.kns.state ∨ (s.kns.state = .lowering ∧ t.kns.state = .paused) ∨
      (s.kns.state = .knelt ∧ t.kns.state = .raising)) ∧
    (t.lvu.heightMode = s.lvu.heightMode ∨ t.lvu.heightMode = .normal)

/-- HEIGHT_SAMPLE and BELLOWS_SAMPLE: window mean, FRESH, HELD, and the opposite corner as substitute. Model's choices
in it: log entries 12, 14 (spec/01 section 1.2, spec/01 section 1.3, spec/01 section 1.5). -/
def Obligations.HeightAndBellowsSamplesSettleTheirRecords : Prop :=
  (∀ (s : State) (raw : PerCorner Reading), s.rst.low = false → ∃ t, exec (.heightSample raw) s = .next t ∧
    (let moved := fun old new : Rec =>
       old.value ≠ new.value ∨ old.validity ≠ new.validity ∨ old.source ≠ new.source
     t.sa.image.twist =
       if ∃ i ∈ Corner.all, moved (s.sa.image.hgt.get i) (t.sa.image.hgt.get i) then
         twistOf { t.sa.image with twist := s.sa.image.twist } else s.sa.image.twist) ∧
    (∀ i : Corner, (s.sa.image.hgt.get i).validity ≠ .lost → (t.sa.image.hgt.get i).validity = .lost →
      s.pfs.mode ≠ .start → t.reports .sensorLost i.num = true) ∧
    s.lossReported t 25 s.sa.image.twist t.sa.image.twist ∧
    (∀ i : Corner,
      let b := s.prm.signals.hgt.get i
      (∀ r : Nat, raw.get i = some r → b.rawLow ≤ r → r ≤ b.rawHigh →
        let x := max (-3000) (min 3000 (Int.tdiv ((r - b.offset) * b.scale) 1024))
        let w := (x :: s.sa.hgtWin.get i).take 8
        t.sa.hgtWin.get i = w ∧
          t.sa.image.hgt.get i = ⟨Int.tdiv (total w) w.length, .fresh, 0, .primary, x, none⟩ ∧
          t.ended .sensorLost i.num = true) ∧
      ((∀ r : Nat, raw.get i = some r → ¬ (b.rawLow ≤ r ∧ r ≤ b.rawHigh)) →
        t.sa.hgtWin.get i = s.sa.hgtWin.get i ∧
        ((s.sa.image.hgt.get i).validity = .fresh →
          t.sa.image.hgt.get i = { s.sa.image.hgt.get i with validity := .held, hold := some 200 }) ∧
        ((s.sa.image.hgt.get i).validity = .held → t.sa.image.hgt.get i = s.sa.image.hgt.get i) ∧
        ((s.sa.image.hgt.get i).validity = .substituted ∨ (s.sa.image.hgt.get i).validity = .lost →
          (t.sa.image.hgt.get i).age = (s.sa.image.hgt.get i).age ∧
          if (t.sa.image.hgt.get i.opposite).validity = .fresh ∨ (t.sa.image.hgt.get i.opposite).validity = .held then
            (t.sa.image.hgt.get i).validity = .substituted ∧ (t.sa.image.hgt.get i).source = .partner ∧
              (t.sa.image.hgt.get i).value = (t.sa.image.hgt.get i.opposite).value
          else (t.sa.image.hgt.get i).validity = .lost ∧
            (t.sa.image.hgt.get i).value = (s.sa.image.hgt.get i).value))) ∧
    t.sa.image = { s.sa.image with hgt := t.sa.image.hgt, twist := t.sa.image.twist } ∧
    t.sa.prsWin = s.sa.prsWin ∧ t.sa.artHist = s.sa.artHist ∧ t.sa.pulses = s.sa.pulses ∧ t.prm = s.prm ∧
    t.loaded = s.loaded ∧ t.rst = s.rst ∧ t.pending = s.pending ∧ t.pfs.profile = s.pfs.profile ∧
    t.cp.rest = s.cp.rest) ∧
  (∀ (s : State) (raw : PerCorner Reading), s.rst.low = false → ∃ t, exec (.bellowsSample raw) s = .next t ∧
    (∀ i : Corner,
      let b := s.prm.signals.prs.get i
      (∀ r : Nat, raw.get i = some r → b.rawLow ≤ r → r ≤ b.rawHigh →
        let x := max 0 (min 1000 (Int.tdiv ((r - b.offset) * b.scale) 1024))
        let w := (x :: s.sa.prsWin.get i).take 16
        t.sa.prsWin.get i = w ∧
          t.sa.image.prs.get i = ⟨Int.fdiv (total w) w.length, .fresh, 0, .primary, x, none⟩ ∧
          t.ended .sensorLost (6 + i.num) = true) ∧
      ((∀ r : Nat, raw.get i = some r → ¬ (b.rawLow ≤ r ∧ r ≤ b.rawHigh)) →
        t.sa.prsWin.get i = s.sa.prsWin.get i ∧
        ((s.sa.image.prs.get i).validity = .fresh →
          t.sa.image.prs.get i = { s.sa.image.prs.get i with validity := .held, hold := some 500 }) ∧
        ((s.sa.image.prs.get i).validity = .held → t.sa.image.prs.get i = s.sa.image.prs.get i) ∧
        ((s.sa.image.prs.get i).validity = .substituted ∨ (s.sa.image.prs.get i).validity = .lost →
          (t.sa.image.prs.get i).age = (s.sa.image.prs.get i).age ∧
          if (t.sa.image.prs.get i.opposite).validity = .fresh ∨ (t.sa.image.prs.get i.opposite).validity = .held then
            (t.sa.image.prs.get i).validity = .substituted ∧ (t.sa.image.prs.get i).source = .partner ∧
              (t.sa.image.prs.get i).value = (t.sa.image.prs.get i.opposite).value
          else (t.sa.image.prs.get i).validity = .lost ∧
            (t.sa.image.prs.get i).value = (s.sa.image.prs.get i).value))) ∧
    (∀ x : Axle,
      let moved := fun i : Corner => (s.sa.image.prs.get i).value ≠ (t.sa.image.prs.get i).value ∨
        (s.sa.image.prs.get i).validity ≠ (t.sa.image.prs.get i).validity ∨
        (s.sa.image.prs.get i).source ≠ (t.sa.image.prs.get i).source
      t.sa.image.load.get x =
        if s.kns.freeze = false ∧ (moved x.left ∨ moved x.right) then
          loadOf s.prm.signals { t.sa.image with load := s.sa.image.load } x else s.sa.image.load.get x) ∧
    (∀ x : Axle, s.lossReported t (22 + x.num) (s.sa.image.load.get x) (t.sa.image.load.get x)) ∧
    (∀ i : Corner, (s.sa.image.prs.get i).validity ≠ .lost → (t.sa.image.prs.get i).validity = .lost →
      s.pfs.mode ≠ .start → t.reports .sensorLost (6 + i.num) = true) ∧
    t.sa.image = { s.sa.image with prs := t.sa.image.prs, load := t.sa.image.load } ∧
    t.sa.hgtWin = s.sa.hgtWin ∧ t.sa.artHist = s.sa.artHist ∧ t.sa.pulses = s.sa.pulses ∧ t.prm = s.prm ∧
    t.loaded = s.loaded ∧ t.rst = s.rst ∧ t.pending = s.pending ∧ t.pfs.profile = s.pfs.profile ∧
    t.cp.rest = s.cp.rest)

/-- WHEEL_SPEED_EVALUATION, WHEEL_SPEED_PULSE_EDGE and VSUP_SAMPLE. Model's choices in it: log entries 10, 12, 22, 36
(spec/01 section 1.2, spec/01 section 1.3, spec/01 section 1.5, spec/01 section 1.6, spec/03 section 3.2, spec/03
section 3.4). -/
def Obligations.WheelAndSupplySamplesSettleTheirRecords : Prop :=
  (∀ (s : State) (w : Wheel) (usec : Nat), s.rst.low = false →
    exec (.wheelSpeedPulseEdge w usec) s = .next (s.left.withSa { s.sa with
      pulses := s.sa.pulses.set w
        ⟨some (s.sa.usTime + usec), (s.sa.pulses.get w).lastEdge.map fun e => s.sa.usTime + usec - e⟩ })) ∧
  (∀ (s : State) (fault : PerWheel Bool) (usec : Nat), s.rst.low = false →
    ∃ t, exec (.wheelSpeedEvaluation fault usec) s = .next t ∧
    (∀ w : Wheel,
      let b := s.prm.signals.wsp.get w
      let now := s.sa.usTime + usec
      let old := s.sa.image.wsp.get w
      let new := t.sa.image.wsp.get w
      (fault.get w = true → new = if old.validity = .fresh then { old with validity := .held, hold := some 100 } else old) ∧
      (∀ rate : Nat, fault.get w = false →
        ((s.sa.pulses.get w).lastEdge = none ∨ (s.sa.pulses.get w).lastInterval = none → rate = 0) →
        (∀ e, (s.sa.pulses.get w).lastEdge = some e → ∀ i, (s.sa.pulses.get w).lastInterval = some i →
          (1000000 < now - e → rate = 0) ∧
          (now - e ≤ 1000000 → 0 < max i (now - e) ∧ rate = min 65535 (10000000 / max i (now - e)))) →
        (b.rawLow ≤ rate ∧ rate ≤ b.rawHigh →
          let x := max 0 (min 15000 (Int.tdiv ((rate - b.offset) * b.scale) 1024))
          new = ⟨x, .fresh, 0, .primary, x, none⟩ ∧ t.ended .sensorLost (17 + w.num) = true) ∧
        (¬ (b.rawLow ≤ rate ∧ rate ≤ b.rawHigh) →
          new = if old.validity = .fresh then { old with validity := .held, hold := some 100 } else old))) ∧
    (let moved := ∃ w ∈ Wheel.all, (s.sa.image.wsp.get w).value ≠ (t.sa.image.wsp.get w).value ∨
       (s.sa.image.wsp.get w).validity ≠ (t.sa.image.wsp.get w).validity ∨
       (s.sa.image.wsp.get w).source ≠ (t.sa.image.wsp.get w).source
     let v := t.sa.image.vspd
     (moved → v = vspdOf { t.sa with image := { t.sa.image with vspd := s.sa.image.vspd } }) ∧
     (¬ moved → v = s.sa.image.vspd) ∧
     (moved → 2 ≤ (Wheel.all.filter fun w => (t.sa.image.wsp.get w).usable).length →
       (∀ w ∈ Wheel.all, 0 ≤ (s.sa.image.wsp.get w).value) →
       v.validity = .fresh ∧ v.source = .primary ∧ v.last = v.value ∧ v.hold = none ∧
       (∀ w ∈ Wheel.all, (t.sa.image.wsp.get w).usable = true → (t.sa.image.wsp.get w).value ≤ v.value) ∧
       (∃ w ∈ Wheel.all, (t.sa.image.wsp.get w).usable = true ∧ (t.sa.image.wsp.get w).value = v.value ∧
         (t.sa.image.wsp.get w).age = v.age))) ∧
    s.lossReported t 21 s.sa.image.vspd t.sa.image.vspd ∧ s.holdFollows t ∧
    t.sa = { s.sa with
      image := { s.sa.image with wsp := t.sa.image.wsp, vspd := t.sa.image.vspd }, sampled := t.sa.sampled } ∧
    t.prm = s.prm ∧ t.loaded = s.loaded ∧ t.rst = s.rst ∧ t.pending = s.pending ∧ t.pfs.profile = s.pfs.profile ∧
    t.cp.rest = s.cp.rest) ∧
  (∀ (s : State) (raw : Reading), s.rst.low = false → ∃ t, exec (.vsupSample raw) s = .next t ∧
    (let b := s.prm.signals.vsup
     (∀ r : Nat, raw = some r → b.rawLow ≤ r → r ≤ b.rawHigh →
      let x := max 0 (min 6000 (Int.tdiv ((r - b.offset) * b.scale) 1024))
      t.sa.image.vsup = ⟨x, .fresh, 0, .primary, x, none⟩ ∧ t.ended .sensorLost 27 = true ∧ t.vsupLow = decide (x < s.prm.signals.vsupLow)) ∧
     ((∀ r : Nat, raw = some r → ¬ (b.rawLow ≤ r ∧ r ≤ b.rawHigh)) →
      t.sa.image.vsup = if s.sa.image.vsup.validity = .fresh then
        { s.sa.image.vsup with validity := .held, hold := some 50 } else s.sa.image.vsup)) ∧
    t.sa = { s.sa with image := { s.sa.image with vsup := t.sa.image.vsup }, sampled := t.sa.sampled } ∧
    t.prm = s.prm ∧ t.loaded = s.loaded ∧ t.rst = s.rst ∧ t.pending = s.pending ∧ t.pfs.profile = s.pfs.profile ∧
    t.cp.rest = s.cp.rest)

/-- PAIR_SAMPLE: agreement, one sensor, none, and disagreement of ART and RST; brake pressures; history. Model's choices
in it: log entry 57 (spec/01 section 1.3, spec/01 section 1.4, spec/01 section 1.5). -/
def Obligations.PairSamplesFollowThePairRule : Prop :=
  ∀ (s : State) (brp : PerAxle Reading) (r1 r2 q1 q2 : Reading), s.rst.low = false →
  ∃ t, exec (.pairSample brp r1 r2 q1 q2) s = .next t ∧
    (∀ x : Axle,
      (∀ v, convert (s.prm.signals.brp.get x) 0 1000 (brp.get x) = some v →
        t.sa.image.brp.get x = ⟨v, .fresh, 0, .primary, v, none⟩ ∧ t.ended .sensorLost (12 + x.num) = true) ∧
      (convert (s.prm.signals.brp.get x) 0 1000 (brp.get x) = none →
        t.sa.image.brp.get x = if (s.sa.image.brp.get x).validity = .fresh then
          { s.sa.image.brp.get x with validity := .held, hold := some 50 } else s.sa.image.brp.get x)) ∧
    (∀ k : PairRec,
      let id := match k with | .art => 15 | .rst => 16
      let window := match k with | .art => 50 | .rst => 20
      let tol := match k with | .art => s.prm.signals.artTol | .rst => s.prm.signals.rstTol
      let a1 := match k with
        | .art => convert s.prm.signals.art1 (-5500) 5500 r1
        | .rst => convert s.prm.signals.rst1 (-1200) 1200 q1
      let a2 := match k with
        | .art => convert s.prm.signals.art2 (-5500) 5500 r2
        | .rst => convert s.prm.signals.rst2 (-1200) 1200 q2
      let flag := match k with | .art => s.sa.artDisagree | .rst => s.sa.rstDisagree
      let flag' := match k with | .art => t.sa.artDisagree | .rst => t.sa.rstDisagree
      let old := match k with | .art => s.sa.image.art | .rst => s.sa.image.rst
      let new := match k with | .art => t.sa.image.art | .rst => t.sa.image.rst
      let held := if old.validity = .fresh ∨ old.validity = .substituted then
        { old with validity := .held, hold := some window } else old
      (∀ x, a1 = some x → ∀ y, a2 = some y →
        (((x - y).natAbs : Int) ≤ tol →
          flag' = false ∧ new = ⟨Int.tdiv (x + y) 2, .fresh, 0, .primary, Int.tdiv (x + y) 2, none⟩ ∧
          (flag = true → t.ended .sensorDisagree id = true)) ∧
        (tol < ((x - y).natAbs : Int) →
          flag' = true ∧ t.reports .sensorDisagree id = true ∧ new = if flag then old else held)) ∧
      (∀ x, a1 = some x → a2 = none →
        flag' = flag ∧ new = if flag then old else ⟨x, .substituted, 0, .partner, x, none⟩) ∧
      (∀ y, a2 = some y → a1 = none →
        flag' = flag ∧ new = if flag then old else ⟨y, .substituted, 0, .partner, y, none⟩) ∧
      (a1 = none → a2 = none → flag' = flag ∧ new = if flag then old else held) ∧
      (old.validity = .lost → new.validity ≠ .lost → t.ended .sensorLost id = true)) ∧
    s.lossReported t 26 s.sa.image.artRate t.sa.image.artRate ∧
    t.sa.artHist =
      (⟨t.sa.image.art.value, t.sa.image.art.validity, t.sa.image.art.source⟩ :: s.sa.artHist).take 11 ∧
    t.sa = { s.sa with
      image := { s.sa.image with
        brp := t.sa.image.brp, art := t.sa.image.art, rst := t.sa.image.rst, artRate := t.sa.image.artRate },
      artDisagree := t.sa.artDisagree, rstDisagree := t.sa.rstDisagree, artHist := t.sa.artHist,
      sampled := t.sa.sampled } ∧
    t.sa.image.artRate = artRateOf { t.sa with image := { t.sa.image with artRate := s.sa.image.artRate } } ∧
    t.prm = s.prm ∧ t.loaded = s.loaded ∧ t.rst = s.rst ∧ t.pending = s.pending ∧ t.pfs.profile = s.pfs.profile ∧
    t.cp.rest = s.cp.rest

/-- HOLD_WINDOW_EXPIRY, PAIR_HOLD_TIMER_EXPIRY, PORT_R_SPEED_EXPIRY and DRIVE_INDICATION_EXPIRY. Model's choices in it:
log entries 2, 12, 13, 14 (spec/01 section 1.3, spec/01 section 1.4, spec/01 section 1.5, spec/02 section 2.3,
spec/08 section 8.3, spec/03 section 3.2, spec/03 section 3.4). -/
def Obligations.HoldTimersAndSpeedValidityRunOut : Prop :=
  (∀ (s : State) (k : SampledRec), s.rst.low = false → (s.sa.image.sampledRec k).validity = .held →
    (s.sa.image.sampledRec k).hold.isSome = true → ∃ t, exec (.holdWindowExpiry k) s = .next t ∧
    (t.sa.image.sampledRec k).hold = none ∧ (t.sa.image.sampledRec k).last = (s.sa.image.sampledRec k).last ∧
    (t.sa.image.sampledRec k).age = (s.sa.image.sampledRec k).age ∧
    (∀ o, s.sa.image.substituteOf k = some o → (o.validity = .fresh ∨ o.validity = .held) →
      (t.sa.image.sampledRec k).validity = .substituted ∧ (t.sa.image.sampledRec k).value = o.value ∧
        (t.sa.image.sampledRec k).source = .partner) ∧
    ((∀ o ∈ s.sa.image.substituteOf k, o.validity ≠ .fresh ∧ o.validity ≠ .held) →
      (t.sa.image.sampledRec k).validity = .lost ∧
        (t.sa.image.sampledRec k).value = (s.sa.image.sampledRec k).value ∧
        (s.pfs.mode ≠ .start → t.reports .sensorLost (recordId k) = true)) ∧
    (s.pfs.mode = .start → ∀ e ∈ t.pfs.faults, e.kind = .sensorLost → e.active = true → e ∈ s.pfs.faults) ∧
    (∀ i : Corner, t.sa.hgtWin.get i = (if k = .hgt i then [] else s.sa.hgtWin.get i) ∧
      t.sa.prsWin.get i = (if k = .prs i then [] else s.sa.prsWin.get i)) ∧
    s.holdFollows t ∧ s.keeps t) ∧
  (∀ (s : State), s.rst.low = false → s.sa.image.art.validity = .held → s.sa.image.art.hold.isSome = true →
    ∃ t, exec (.pairHoldTimerExpiry .art) s = .next t ∧
    t.sa.image.art = { s.sa.image.art with validity := .lost, hold := none } ∧
    (s.pfs.mode ≠ .start → t.reports .sensorLost 15 = true) ∧
    (s.pfs.mode = .start → ∀ e ∈ t.pfs.faults, e.kind = .sensorLost → e.active = true → e ∈ s.pfs.faults) ∧
    (s.sa.artHist ≠ [] → t.sa.image.artRate.validity = .lost) ∧ t.sa.artHist.tail = s.sa.artHist.tail ∧
    t.sa.artHist.head? = s.sa.artHist.head?.map (fun _ => ⟨s.sa.image.art.value, .lost, s.sa.image.art.source⟩) ∧
    t.sa.image.rst = s.sa.image.rst ∧ s.keeps t) ∧
  (∀ (s : State), s.rst.low = false → s.sa.image.rst.validity = .held → s.sa.image.rst.hold.isSome = true →
    ∃ t, exec (.pairHoldTimerExpiry .rst) s = .next t ∧
    t.sa = { s.sa with image := { s.sa.image with rst := { s.sa.image.rst with validity := .lost, hold := none } } } ∧
    (s.pfs.mode ≠ .start → t.reports .sensorLost 16 = true) ∧
    (s.pfs.mode = .start → ∀ e ∈ t.pfs.faults, e.kind = .sensorLost → e.active = true → e ∈ s.pfs.faults) ∧
    t.sju.state = .faulted ∧ s.keeps t) ∧
  (∀ (s : State), s.rst.low = false → s.sa.portSpeedLeft.isSome = true → ∃ t, exec .portRSpeedExpiry s = .next t ∧
    t.sa = { s.sa with portSpeedLeft := none, image := { s.sa.image with vspd := t.sa.image.vspd } } ∧
    ((Wheel.all.filter fun w => (s.sa.image.wsp.get w).usable).length < 2 →
      t.sa.image.vspd.validity = .lost ∧ t.sa.image.vspd.value = s.sa.image.vspd.value) ∧
    s.lossReported t 21 s.sa.image.vspd t.sa.image.vspd ∧ s.holdFollows t ∧ s.keeps t) ∧
  (∀ (s : State), s.rst.low = false → s.cp.driveLeft.isSome = true → ∃ t, exec .driveIndicationExpiry s = .next t ∧
    t.cp.retarder = false ∧ t.cp.engaged = false ∧ t.cp.driveLeft = none ∧ t.sa = s.sa ∧ t.prm = s.prm ∧
    t.loaded = s.loaded ∧ t.rst = s.rst ∧ t.pending = s.pending ∧ t.pfs.rest = s.pfs.rest ∧
    t.cp.rest.port = s.cp.rest.port)

/-- VSPD, LOAD, TWIST and ART_RATE as functions of their inputs. Model's choices in it: log entries 10, 13 (spec/01
section 1.1, spec/01 section 1.5). -/
def Obligations.DerivedRecordsFollowTheirFormulas : Prop :=
  (∀ (p : SignalParams) (im : Image) (x : Axle),
    let l := im.prs.get x.left
    let r := im.prs.get x.right
    let new := loadOf p im x
    new.age = max l.age r.age ∧ new.source = (if l.source = .primary ∧ r.source = .primary then .primary else .partner) ∧
    (l.validity ≠ .lost ∧ r.validity ≠ .lost →
      new.value = max 0 (min 20000
        (Int.fdiv (l.value * p.aeff.get x) 100 + Int.fdiv (r.value * p.aeff.get x) 100 + p.unsprung.get x)) ∧
      new.validity.rank = max l.validity.rank r.validity.rank) ∧
    (l.validity = .lost ∨ r.validity = .lost → new.validity = .lost ∧ new.value = (im.load.get x).value)) ∧
  (∀ (im : Image),
    let h := fun i => (im.hgt.get i).value
    let new := twistOf im
    (∀ i : Corner, (im.hgt.get i).age ≤ new.age ∧ (im.hgt.get i).validity.rank ≤ new.validity.rank) ∧
    (∃ i ∈ Corner.all, (im.hgt.get i).age = new.age) ∧ (∃ i ∈ Corner.all, (im.hgt.get i).validity = new.validity) ∧
    ((∀ i ∈ Corner.all, (im.hgt.get i).validity ≠ .lost) →
      new.value = max (-3000) (min 3000 (Int.tdiv ((h .al + h .bl) - (h .ar + h .br)) 2 - (h .cl - h .cr))) ∧
      new.validity ≠ .lost) ∧
    ((∃ i ∈ Corner.all, (im.hgt.get i).validity = .lost) → new.validity = .lost ∧ new.value = im.twist.value) ∧
    (new.source = .primary ↔ ∀ i ∈ Corner.all, (im.hgt.get i).source = .primary)) ∧
  (∀ (sa : Acquisition) (now : HistVal) (mid : List HistVal) (first : HistVal),
    sa.artHist = now :: (mid ++ [first]) → mid.length = 9 →
    ((∀ e ∈ sa.artHist, e.validity ≠ .lost) →
      (artRateOf sa).value = max (-20000) (min 20000 ((now.value - first.value) * 100)) ∧
      (∀ e ∈ sa.artHist, e.validity.rank ≤ (artRateOf sa).validity.rank) ∧
      (∃ e ∈ sa.artHist, e.validity = (artRateOf sa).validity) ∧
      ((artRateOf sa).source = .primary ↔ ∀ e ∈ sa.artHist, e.source = .primary) ∧
      (artRateOf sa).age = sa.image.art.age) ∧
    ((∃ e ∈ sa.artHist, e.validity = .lost) → artRateOf sa = { sa.image.artRate with validity := .lost })) ∧
  (∀ (sa : Acquisition), sa.artHist.length < 11 → artRateOf sa = { sa.image.artRate with validity := .lost }) ∧
  (∀ (sa : Acquisition),
    let v := vspdOf sa
    2 ≤ (Wheel.all.filter fun w => (sa.image.wsp.get w).usable).length →
    (∀ w ∈ Wheel.all, 0 ≤ (sa.image.wsp.get w).value) →
      v.validity = .fresh ∧ v.source = .primary ∧ v.last = v.value ∧ v.hold = none ∧
      (∀ w ∈ Wheel.all, (sa.image.wsp.get w).usable = true → (sa.image.wsp.get w).value ≤ v.value) ∧
      (∃ w ∈ Wheel.all, (sa.image.wsp.get w).usable = true ∧ (sa.image.wsp.get w).value = v.value ∧
        (sa.image.wsp.get w).age = v.age)) ∧
  (∀ (sa : Acquisition), (Wheel.all.filter fun w => (sa.image.wsp.get w).usable).length < 2 →
    sa.portSpeedLeft = none → vspdOf sa = { sa.image.vspd with validity := .lost }) ∧
  (∀ (sa : Acquisition), (Wheel.all.filter fun w => (sa.image.wsp.get w).usable).length < 2 →
    ∀ left : Nat, sa.portSpeedLeft = some left →
      vspdOf sa = ⟨sa.portSpeed, .substituted, 100 - left, .port, sa.image.vspd.last, none⟩)

/-- A loaded slot's LOW, MATCH and HIGH by threshold and half-width; what one term of the program writes (R27, R35). -/
def Obligations.CompareFieldsAndTermsFollowTheirRules : Prop :=
  (∀ (s : State) (k : Nat), k < 16 → ∀ p, s.slot? k = some p →
    (p.signal = none → (s.cond k).low = false ∧ (s.cond k).mtch = false ∧ (s.cond k).high = false) ∧
    (∀ id, p.signal = some id →
      ((s.sa.image.byId id).validity = .lost →
        (s.cond k).low = false ∧ (s.cond k).mtch = false ∧ (s.cond k).high = false) ∧
      ((s.sa.image.byId id).validity ≠ .lost →
        ((s.cond k).low = true ↔ (s.sa.image.byId id).value < p.threshold - p.halfWidth) ∧
        ((s.cond k).mtch = true ↔ p.threshold - p.halfWidth ≤ (s.sa.image.byId id).value ∧
          (s.sa.image.byId id).value ≤ p.threshold + p.halfWidth) ∧
        ((s.cond k).high = true ↔ p.threshold + p.halfWidth < (s.sa.image.byId id).value) ∧
        (0 ≤ p.halfWidth →
          (s.cond k).low.toNat + (s.cond k).mtch.toNat + (s.cond k).high.toNat = 1)))) ∧
  (∀ (snap work : List Bool) (tm : Term) (j : Nat), 88 ≤ tm.target → tm.target < 88 + work.length → j < work.length →
    (runTerm snap work tm).getD j false =
      if j = tm.target - 88 then operate tm.op (if tm.a < 88 then snap.getD tm.a false else work.getD (tm.a - 88) false)
        (if tm.b < 88 then snap.getD tm.b false else work.getD (tm.b - 88) false)
      else work.getD j false) ∧
  (∀ (snap : List Bool) (prog : List Term) (tm : Term),
    runTerms snap (prog ++ [tm]) = runTerm snap (runTerms snap prog) tm)

/-- PASS_END runs the program on its snapshot and publishes the floored permissions. Model's choices in it: log entries
6, 7, 22, 39 (spec/02 section 2.4, spec/02 section 2.5). -/
def Obligations.PassEndPublishesFlooredResults : Prop :=
  ((List.range 8).map fun op => [operate op false false, operate op false true, operate op true false, operate op true true]) =
    [[false, false, false, true], [false, false, true, false], [false, true, true, true], [true, false, true, true],
     [true, true, true, false], [true, false, false, false], [false, true, true, false], [true, false, false, true]] ∧
  (∀ (s : State), s.rst.low = false → s.ciu.pass = none → exec .passEnd s = .next s.left) ∧
  (∀ (s : State) (p : Pass), s.rst.low = false → s.ciu.pass = some p →
    let work := runTerms p.snap p.program
    (endPass p s).ciu = ⟨s.ciu.latches, (permsOf work).and s.floors, permsOf work, scratchOf work, none, false,
      s.ciu.pubNum + 1⟩ ∧
    exec .passEnd s = .next (finishWith s.ciu.again.toNat s (endPass p s)) ∧
    ∃ t, exec .passEnd s = .next t ∧ t.ciu.results = permsOf work ∧ t.ciu.scratch = scratchOf work ∧
      t.ciu.latches = s.ciu.latches ∧ t.ciu.perms.and ((permsOf work).and s.floors) = t.ciu.perms ∧
      t.floorsSound = true ∧ (s.ciu.again = true → t.ciu.pass = some ⟨t.inputs, t.prm.gates⟩) ∧ s.keepsImage t)

/-- CLEAR_FAULT removes the matching LATENT entries; CLEAR_DOUBT the latches of FRESH records. Model's choices in it:
log entries 22, 25, 26 (spec/02 section 2.1, spec/11 section 11.3). -/
def Obligations.ClearingCommandsClearWhatTheyMay : Prop :=
  (∀ (s : State) (p : PortId) (kind source : Byte), s.hears p = true → s.pfs.mode = .run → (p = .f ∨ p = .b) →
    ∃ t, exec (.clearFault p [kind, source]) s = .next t ∧ s.keepsOthers p t ∧
    (15 < kind.toNat ∧ kind.toNat ≠ 255 → s.onlyRead p t ∧ t.answered p 0x18#8 .refusedRange []) ∧
    (¬ (15 < kind.toNat ∧ kind.toNat ≠ 255) →
      (let old := (hear p s).pfs.faults
       let goes := fun e : FaultEntry => !e.active && (decide (kind.toNat = 255) ||
         (decide (e.kind.code = kind.toNat) && (decide (source.toNat = 255) || decide (e.source = source.toNat))))
       (old.any goes = true → s.unmoved t) ∧ (old.any goes = false → s.onlyRead p t) ∧
       t.pfs.faults = old.filter (fun e => !goes e) ∧
       t.pfs.overflow = (s.pfs.overflow && !old.any goes) ∧
       t.answered p 0x18#8 .done
         (byte1 (old.length - t.pfs.faults.length) ++ byte1 t.pfs.faults.length ++ yesNo t.pfs.overflow)))) ∧
  (∀ (s : State) (p : PortId) (hi lo : Byte), s.hears p = true → s.pfs.mode = .run → (p = .f ∨ p = .b) →
    ∃ t, exec (.clearDoubt p [hi, lo]) s = .next t ∧
    (∀ k : Fin 16,
      let named := hasFlag (256 * hi.toNat + lo.toNat) k
      (named = false → t.ciu.latches.getLsbD k = s.ciu.latches.getLsbD k) ∧
      (∀ sl, s.slot? k = some sl → ∀ id, sl.signal = some id → named = true →
        ((s.sa.image.byId id).validity = .fresh → t.ciu.latches.getLsbD k = false) ∧
        ((s.sa.image.byId id).validity ≠ .fresh → sl.latchDoubt = true →
          t.ciu.latches.getLsbD k = s.ciu.latches.getLsbD k))) ∧
    t.answered p 0x19#8 .done (counter t.ciu.latches) ∧ t.sa = s.sa ∧ t.shc = s.shc ∧ t.dcu = s.dcu ∧ t.lvu = s.lvu ∧
    t.kns = s.kns ∧ t.bdu = s.bdu ∧ t.pfu = s.pfu ∧ t.pfs = (hear p s).pfs ∧
    (t.ciu.latches ≠ s.ciu.latches → t.sju = s.left.sju) ∧ (t.ciu.latches = s.ciu.latches → s.onlyRead p t) ∧
    t.ciu = { s.ciu with latches := t.ciu.latches, pass := t.ciu.pass, again := t.ciu.again } ∧ s.keepsOthers p t)

/-- HOLD_APPLY: entry to APPLYING with its floors and timer, or the refusal with its speed block. Model's choices in it:
log entries 19, 25 (spec/03 section 3.1, spec/03 section 3.2, spec/03 section 3.6). -/
def Obligations.HoldApplyEntersApplyingOrSaysWhyNot : Prop :=
  ∀ (s : State) (p : PortId), s.hears p = true → s.pfs.mode = .run → (p = .f ∨ p = .b) →
    ∃ t, exec (.holdApply p [0#8]) s = .next t ∧ s.keepsOthers p t ∧ t.sa = s.sa ∧
    ((s.shc.state = .released ∧ s.sa.image.vspd.validity ≠ .lost ∧ s.sa.image.vspd.value ≤ s.prm.hold.entrySpeed) ∨
        s.shc.state = .releasing →
      t.shc.state = .applying ∧ t.shc.applying = some 1500 ∧ t.shc.pendingApply = false ∧
      t.shc.notReached = .fill false ∧ t.shc.lastFailed = .fill false ∧ t.shc.creep = s.shc.creep ∧
      t.shc.quiet = s.shc.quiet ∧
      (∀ x : Axle, t.shc.floor.get x = if 0 < s.prm.hold.floor.get x then
        (if s.shc.creep then s.prm.brake.pMax.get x else s.prm.hold.floor.get x) else 0) ∧
      t.attended .holdStateChanged = true ∧ t.answered p 0x11#8 .done (byte1 1 ++ yesNo false ++ byte1 0)) ∧
    (s.shc.state = .released → s.sa.image.vspd.validity = .lost →
      s.onlyRead p t ∧ t.answered p 0x11#8 .refusedInterlock (byte1 0 ++ yesNo s.shc.pendingApply ++ byte1 1)) ∧
    (s.shc.state = .released → s.sa.image.vspd.validity ≠ .lost → s.prm.hold.entrySpeed < s.sa.image.vspd.value →
      s.onlyRead p t ∧ t.answered p 0x11#8 .refusedInterlock (byte1 0 ++ yesNo s.shc.pendingApply ++ byte1 2)) ∧
    (s.shc.state = .applying ∨ s.shc.state = .applied →
      s.onlyRead p t ∧
        t.answered p 0x11#8 .done (byte1 s.shc.state.code ++ yesNo s.shc.pendingApply ++ byte1 0))

/-- HOLD_RELEASE: entry to RELEASING, or the refusal with the release block set. Model's choices in it: log entries 19,
25 (spec/03 section 3.3, spec/03 section 3.4, spec/03 section 3.6). -/
def Obligations.HoldReleaseNeedsTheStopUndone : Prop :=
  ∀ (s : State), s.hears .f = true → s.pfs.mode = .run →
    ∃ t, exec (.holdRelease .f [1#8]) s = .next t ∧ s.keepsOthers .f t ∧ t.sa = s.sa ∧ t.dcu = s.dcu ∧
    (let free := s.allShut = true ∧ s.kns.state = .ride ∧ s.ciu.perms.holdRelease = true
     let blocks := [decide (s.dcu.d1.phase ≠ .shut), decide (s.dcu.d2.phase ≠ .shut), decide (s.dcu.d3.phase ≠ .shut),
       decide (s.dcu.d4.phase ≠ .shut), decide (s.kns.state ≠ .ride), !s.ciu.perms.holdRelease]
     (s.shc.state = .applying ∨ s.shc.state = .applied → free →
       t.shc = ⟨.releasing, s.shc.pendingApply, s.shc.floor, false, none, none, .fill false, s.shc.lastFailed⟩ ∧
       (∀ x : Axle, s.shc.notReached.get x = true → t.ended .holdNotReached x.num = true) ∧
       (s.shc.creep = true → t.ended .holdCreep 21 = true) ∧ t.attended .holdStateChanged = true ∧
       t.answered .f 0x11#8 .done (byte1 0x00 ++ byte1 3 ++ byte1 0 ++ smallSet t.inhibitCauses.members)) ∧
     (s.shc.state = .applying ∨ s.shc.state = .applied → ¬ free →
       s.onlyRead .f t ∧ blocks.any id = true ∧
       t.answered .f 0x11#8 .refusedInterlock
         (byte1 0x12 ++ byte1 s.shc.state.code ++ smallSet blocks ++ smallSet s.inhibitCauses.members))) ∧
    (s.shc.state = .releasing ∨ s.shc.state = .released →
      s.onlyRead .f t ∧
      t.answered .f 0x11#8 .done
        (byte1 0x00 ++ byte1 s.shc.state.code ++ byte1 0 ++ smallSet s.inhibitCauses.members))

/-- APPLYING_TIMER_EXPIRY, QUIET_TIMER_EXPIRY, and what a VSPD update does to the hold. Model's choices in it: log
entries 2, 19, 22, 39, 47 (spec/03 section 3.2, spec/03 section 3.4). -/
def Obligations.HoldTimersAndSpeedUpdatesMoveTheHold : Prop :=
  (∀ (s : State), s.rst.low = false → s.shc.applying.isSome = true → ∃ t, exec .applyingTimerExpiry s = .next t ∧
    t.shc = { s.shc with
      applying := none, notReached := .ofFn fun x =>
      s.shc.notReached.get x || (decide (0 < s.prm.hold.floor.get x) && s.shc.lastFailed.get x) } ∧
    (∀ x : Axle, 0 < s.prm.hold.floor.get x → s.shc.lastFailed.get x = true → t.reports .holdNotReached x.num = true) ∧
    s.keepsImage t ∧ t.dcu = s.dcu ∧ t.lvu = s.lvu ∧ t.kns = s.kns ∧ t.bdu = s.bdu ∧ t.sju = s.left.sju ∧ t.pfu = s.pfu ∧
    t.ciu = { s.ciu with pass := t.ciu.pass, again := t.ciu.again }) ∧
  (∀ (s : State), s.rst.low = false → s.shc.applying = none → exec .applyingTimerExpiry s = .next s.left) ∧
  (∀ (s : State), s.rst.low = false → s.shc.quiet = none →
    exec .quietTimerExpiry s = .next (finish s s) ∧
    (s.settled s = true → exec .quietTimerExpiry s = .next s)) ∧
  (∀ (s : State), s.rst.low = false → s.shc.quiet.isSome = true → ∃ t, exec .quietTimerExpiry s = .next t ∧
    t.shc.creep = false ∧ t.shc.quiet = none ∧
    (∀ x : Axle, t.shc.floor.get x = if 0 < s.prm.hold.floor.get x then s.prm.hold.floor.get x else 0) ∧
    (s.shc.creep = true → t.ended .holdCreep 21 = true) ∧ s.keepsImage t) ∧
  (∀ (s : State),
    let v := s.sa.image.vspd
    let t := holdSpeedUpdate s
    let allowed := s.shc.pendingApply = true ∧ s.shc.state = .released ∧ v.validity ≠ .lost ∧
      v.value ≤ s.prm.hold.entrySpeed
    (allowed → t.shc.state = .applying ∧ t.shc.pendingApply = false ∧ t.shc.applying = some 1500) ∧
    (¬ allowed → s.shc.creep = true →
      t = s.withShc { s.shc with
        quiet :=
        if v.validity ≠ .lost ∧ v.value ≤ 50 then some (s.shc.quiet.getD 1000) else none }) ∧
    (s.shc.creep = false → s.shc.state = .applied → v.validity ≠ .lost ∧ 50 < v.value →
      t.shc = { s.shc with
        creep := true, quiet := some 1000, floor := .ofFn fun x =>
        if 0 < s.prm.hold.floor.get x then s.prm.brake.pMax.get x else 0 } ∧ t.reports .holdCreep 21 = true) ∧
    (¬ allowed → s.shc.creep = false → ¬ (s.shc.state = .applied ∧ v.validity ≠ .lost ∧ 50 < v.value) → t = s))

/-- FRAME_BOUNDARY of BRK: the reached test, the ramp, and the inputs of the two computations (log entries 9 and 30).
Model's choices in it: log entries 9, 19, 30 (spec/03 section 3.2, spec/03 section 3.3, spec/07 section 7.5, spec/08
section 8.5). -/
def Obligations.BrakeBoundaryTestsTheHoldAndCapturesItsInputs : Prop :=
  (∀ (s : State),
    let t := holdBoundary s
    let reached := fun x : Axle => (s.sa.image.brp.get x).validity ≠ .lost ∧
      s.prm.hold.floor.get x - s.prm.hold.tol ≤ (s.sa.image.brp.get x).value ∧ s.abandoned x = false
    let fails := fun x : Axle => 0 < s.prm.hold.floor.get x ∧ ¬ reached x
    (s.shc.state = .applying → (∀ x ∈ Axle.all, ¬ fails x) →
      t.shc = { s.shc with state := .applied, applying := none, lastFailed := .fill false, notReached := .fill false } ∧
      t.attended .holdStateChanged = true ∧
      (∀ x ∈ Axle.all, s.shc.notReached.get x = true → t.ended .holdNotReached x.num = true)) ∧
    (s.shc.state = .applying → (∃ x ∈ Axle.all, fails x) →
      t.shc.state = .applying ∧ t.shc.applying = s.shc.applying ∧ t.shc.floor = s.shc.floor ∧
      (∀ x ∈ Axle.all, (t.shc.lastFailed.get x = true ↔ fails x) ∧
        (t.shc.notReached.get x = true ↔ s.shc.notReached.get x = true ∧ fails x) ∧
        (s.shc.notReached.get x = true → ¬ fails x → t.ended .holdNotReached x.num = true))) ∧
    (s.shc.state = .releasing →
      (∀ x ∈ Axle.all, t.shc.floor.get x = if 0 < s.prm.hold.floor.get x then
        max 0 (s.shc.floor.get x - s.prm.hold.ramp) else s.shc.floor.get x) ∧
      t.shc.state = (if ∀ x ∈ Axle.all, t.shc.floor.get x = 0 then .released else .releasing)) ∧
    (s.shc.state = .released ∨ s.shc.state = .applied → t = s) ∧
    t.sa = s.sa ∧ t.ciu = s.ciu ∧ t.dcu = s.dcu ∧ t.lvu = s.lvu ∧ t.kns = s.kns ∧ t.bdu = s.bdu ∧ t.sju = s.sju ∧
    t.pfu = s.pfu ∧ s.keeps t) ∧
  (∀ (s : State) (order : BoundaryOrder), s.rst.low = false →
    ∃ t, exec (.frameBoundary .brk order) s = .next t ∧ s.keepsImage t ∧
    (let p := pulseBoundary .brk s
     let h := (holdBoundary (match order with
       | .holdFirst => p
       | .captureFirst => reabandonTouched s p)).shc
     (t.shc = h ∨ ((h.state = .applied ∨ h.state = .releasing) ∧ t.shc.state = .applying)) ∧
     (s.shc.state = .applying → ∀ x ∈ Axle.all, s.shc.notReached.get x = true → h.notReached.get x = false →
       t.ended .holdNotReached x.num = true)) ∧
    t.sju.work = some ⟨s.sa.image.art, s.sa.image.artRate, s.cp.retarder, s.prm.steer⟩ ∧
    (∀ w, t.bdu.work = some w → w.brp = s.sa.image.brp ∧ w.mode = s.pfs.mode ∧ w.params = s.prm.brake) ∧
    ((∀ x ∈ Axle.all, (s.pfu.chan.inlet.get x).state ≠ .rearmPending ∧
        (s.pfu.chan.exhaust.get x).state ≠ .rearmPending) →
      t.bdu.work = some ⟨(match order with
          | .captureFirst => .ofFn s.setpoint
          | .holdFirst => .ofFn (holdBoundary s).setpoint),
        s.sa.image.brp, .ofFn s.abandoned, s.pfs.mode, s.prm.brake⟩))

/-- The pull-away inhibit is asserted exactly while its cause set is not empty (R62). -/
def Obligations.InhibitFollowsItsCauses : Prop :=
  ∀ (s : State),
    (s.inhibit = true ↔ s.pfs.mode ≠ .run ∨ s.shc.state ≠ .released ∨ s.kns.state ≠ .ride ∨
      (∃ d : Door, (s.dcu.get d).phase ≠ .shut)) ∧
    s.inhibitCauses.members = [decide (s.pfs.mode ≠ .run), decide (s.shc.state ≠ .released),
      decide (s.kns.state ≠ .ride), decide (s.dcu.d1.phase ≠ .shut), decide (s.dcu.d2.phase ≠ .shut),
      decide (s.dcu.d3.phase ≠ .shut), decide (s.dcu.d4.phase ≠ .shut)] ∧
    (∀ p : PortId, ∃ b : Byte, (s.status p).head? = some b ∧ b.getLsbD 0 = s.inhibit)

/-- FRAME_BOUNDARY: the commit is taken, the boundary counted, and the ARMED channels of the group drive. Model's
choices in it: log entry 38 (spec/09 section 9.2, spec/09 section 9.3). -/
def Obligations.BoundaryTakesTheCommitAndDrivesTheArmed : Prop :=
  ∀ (s : State) (g : FrameGroup) (order : BoundaryOrder), s.rst.low = false →
    ∃ t, exec (.frameBoundary g order) s = .next t ∧ s.keeps t ∧ (g ≠ .lvl → t.sa = s.sa) ∧
    (t.pfu.group.get g).boundary = (s.pfu.group.get g).boundary + 1 ∧
    (g ≠ .str ∨ t.sju.state ≠ .faulted ∨
        (s.sju.state = .faulted ∧ t.pfu.chan.bridge.state = s.pfu.chan.bridge.state) → t.pfu.group.get g =
      { s.pfu.group.get g with commit := false, boundary := (s.pfu.group.get g).boundary + 1 }) ∧
    (∀ h : FrameGroup, h ≠ g → h ≠ .str ∨ t.sju.state ≠ .faulted ∨
        (s.sju.state = .faulted ∧ t.pfu.chan.bridge.state = s.pfu.chan.bridge.state) →
      t.pfu.group.get h = s.pfu.group.get h) ∧
    (let taken := (s.pfu.group.get g).commit
     let a := s.pfu.active
     let b := s.pfu.staged
     t.pfu.active =
      { inlet := if g = .brk ∧ taken then b.inlet else a.inlet
        exhaust := if g = .brk ∧ taken then b.exhaust else a.exhaust
        joint := if g = .brk ∧ taken then b.joint else a.joint
        fill := if g = .lvl ∧ taken then b.fill else a.fill
        vent := if g = .lvl ∧ taken then b.vent else a.vent
        bridge := if g = .str ∧ taken then b.bridge else a.bridge } ∧
     t.pfu.owed = (if g = .lvl then taken else s.pfu.owed)) ∧
    t.pfu.staged = { s.pfu.staged with bridge := t.pfu.staged.bridge } ∧
    (∀ k : Chan, k.group = g → ((t.pfu.chan.get k).driving = true ↔ (t.pfu.chan.get k).state = .armed)) ∧
    (let trips := fun k : Chan =>
       (s.pfu.chan.get k).state = .armed ∧ t.pfu.chan.get k = ⟨.tripped, (t.pfu.chan.get k).cause,
         min 255 ((s.pfu.chan.get k).trips + 1), false, false, (s.pfu.chan.get k).openLoad⟩ ∧
         (t.pfu.chan.get k).cause ≠ none ∧ (t.pfu.chan.get k).cause ≠ some .safe ∧
         t.reports .channelTrip k.num = true ∧ t.attended .trip = true
     (∀ k : Chan, k.group = g → (s.pfu.chan.get k).state ≠ .rearmPending →
       t.pfu.chan.get k = { s.pfu.chan.get k with
         driving := decide ((s.pfu.chan.get k).state = .armed)
         overCurrent := (s.pfu.chan.get k).overCurrent && (t.pfu.chan.get k).overCurrent } ∨ trips k) ∧
     (∀ k : Chan, k.group ≠ g → t.pfu.chan.get k = s.pfu.chan.get k ∨ trips k))

/-- REARM makes TRIPPED channels REARM_PENDING; their group's next boundary arms or trips them. Model's choices in it:
log entries 25, 26, 59 (spec/09 section 9.4). -/
def Obligations.RearmIsRequestedAndDecidedAtTheBoundary : Prop :=
  (∀ (s : State) (p : PortId) (g : FrameGroup) (b1 b2 b3 : Byte), s.hears p = true → s.pfs.mode = .run →
    (p = .f ∨ (p = .r ∧ g = .str) ∨ (p = .b ∧ g = .lvl)) →
    ∃ t, exec (.rearm p [BitVec.ofNat 8 g.num, b1, b2, b3]) s = .next t ∧ s.keepsOthers p t ∧ t.sa = s.sa ∧
    (let field := b1.toNat * 65536 + b2.toNat * 256 + b3.toNat
     let set := Chan.all.filter fun k => field.testBit k.num
     let blocked := ∃ k ∈ set, (s.pfu.chan.get k).state = .tripped ∧ ((hear p s).tripSource k).isSome = true
     let report := (set.map fun k =>
       byte1 (t.pfu.chan.get k).state.code ++ smallSet ((hear p s).assertedMembers k)).flatten
     (1048575 < field ∨ (∃ k ∈ set, k.group ≠ g) → s.onlyRead p t ∧ t.answered p 0x17#8 .refusedRange []) ∧
     (field ≤ 1048575 → (∀ k ∈ set, k.group = g) →
       (blocked → s.onlyRead p t ∧ t.answered p 0x17#8 .refusedInterlock report) ∧
       (¬ blocked → t.answered p 0x17#8 .done report ∧
         ((∀ k ∈ set, (s.pfu.chan.get k).state ≠ .tripped) → s.onlyRead p t) ∧
         (∀ k ∈ set, (s.pfu.chan.get k).state = .tripped →
           t.pfu.chan.get k = { s.pfu.chan.get k with state := .rearmPending }) ∧
         (∀ k ∈ Chan.all, k ∉ set ∨ (s.pfu.chan.get k).state ≠ .tripped →
           t.pfu.chan.get k = s.pfu.chan.get k ∨
             ((s.pfu.chan.get k).state = .armed ∧ (t.pfu.chan.get k).state = .tripped)))))) ∧
  (∀ (s : State) (k : Chan) (order : BoundaryOrder), s.rst.low = false →
    (s.pfu.chan.get k).state = .rearmPending → ∃ t, exec (.frameBoundary k.group order) s = .next t ∧
    (∀ c, s.tripSource k = some c →
      t.pfu.chan.get k = ⟨.tripped, some c, min 255 ((s.pfu.chan.get k).trips + 1), false, false,
        (s.pfu.chan.get k).openLoad⟩ ∧ t.reports .channelTrip k.num = true ∧ t.attended .trip = true) ∧
    (s.tripSource k = none →
      ((∀ i, (s.selects k).index = some i → 88 ≤ i) → (t.pfu.chan.get k).state = .armed) ∧
      ((t.pfu.chan.get k).state = .armed →
        t.pfu.chan.get k = ⟨.armed, (s.pfu.chan.get k).cause, (s.pfu.chan.get k).trips, true,
          (t.pfu.chan.get k).overCurrent, (s.pfu.chan.get k).openLoad⟩ ∧ t.ended .channelTrip k.num = true ∧
        ((t.pfu.chan.get k).overCurrent = true → (s.pfu.chan.get k).overCurrent = true)) ∧
      ((t.pfu.chan.get k).state ≠ .armed →
        t.pfu.chan.get k = ⟨.tripped, some .sourceIndex, min 255 ((s.pfu.chan.get k).trips + 1), false, false,
          (s.pfu.chan.get k).openLoad⟩ ∧ t.reports .channelTrip k.num = true ∧ t.attended .trip = true))) ∧
  (∀ (s : State) (k : Chan) (g : FrameGroup) (order : BoundaryOrder), s.rst.low = false → k.group ≠ g →
    (s.pfu.chan.get k).state = .rearmPending → ∃ t, exec (.frameBoundary g order) s = .next t ∧
      t.pfu.chan.get k = s.pfu.chan.get k)

/-- The output of a DUTY, a DELAYED and the BRIDGE channel at each tick of a frame. Model's choices in it: log entries
38, 58 (spec/09 section 9.2). -/
def Obligations.OutputsFollowTheActiveValueInsideAFrame : Prop :=
  (∀ (s : State) (k : Chan) (n : Nat), (s.pfu.chan.get k).driving = false → s.driveAt k n = 0) ∧
  (∀ (s : State) (x : Axle) (n : Nat), n < 1000 →
    ((s.pfu.chan.inlet.get x).driving = true →
      s.driveAt (.inlet x) n = if (n : Int) < s.pfu.active.inlet.get x then 1 else 0) ∧
    ((s.pfu.chan.exhaust.get x).driving = true →
      s.driveAt (.exhaust x) n = if (n : Int) < s.pfu.active.exhaust.get x then 1 else 0) ∧
    (s.pfu.chan.joint.driving = true → s.driveAt .joint n = if (n : Int) < s.pfu.active.joint then 1 else 0)) ∧
  (∀ (s : State) (i : Corner) (n : Nat), n < 1000 →
    ((s.pfu.chan.fill.get i).driving = true → s.driveAt (.fill i) n =
      if s.pfu.owed = true ∧ (s.pfu.active.fill.get i).delay ≤ n ∧
        (n : Int) < (s.pfu.active.fill.get i).delay + (s.pfu.active.fill.get i).width then 1 else 0) ∧
    ((s.pfu.chan.vent.get i).driving = true → s.driveAt (.vent i) n =
      if s.pfu.owed = true ∧ (s.pfu.active.vent.get i).delay ≤ n ∧
        (n : Int) < (s.pfu.active.vent.get i).delay + (s.pfu.active.vent.get i).width then 1 else 0)) ∧
  (∀ (s : State) (n : Nat), n < 1000 → s.pfu.chan.bridge.driving = true →
    let d := s.pfu.active.bridge
    let m := max 0 (min (1000 - 2 * (s.prm.frames.deadTime : Int)) (d.natAbs : Int))
    let b := Int.fdiv (1000 - m) 2
    (0 < d → s.driveAt .bridge n = if b ≤ n ∧ (n : Int) < b + m then 1 else 0) ∧
    (d < 0 → s.driveAt .bridge n = if b ≤ n ∧ (n : Int) < b + m then -1 else 0) ∧
    (d = 0 → s.driveAt .bridge n = 0) ∧
    (s.prm.frames.deadTime ≤ 500 → n < s.prm.frames.deadTime ∨ 1000 - s.prm.frames.deadTime ≤ n →
      s.driveAt .bridge n = 0))

/-- DOOR_OPEN and DOOR_CLOSE: releases, closings and refusals by phase. Model's choices in it: log entries 25, 26
(spec/04 section 4.2, spec/04 section 4.4, spec/04 section 4.5). -/
def Obligations.DoorCommandsOpenAndCloseAsTheSpecAllows : Prop :=
  (∀ (s : State) (d : Door), s.hears .b = true → s.pfs.mode = .run →
    ∃ t, exec (.doorOpen .b [0#8, BitVec.ofNat 8 d.number]) s = .next t ∧ s.keepsOthers .b t ∧ t.sa = s.sa ∧
    (let r := s.dcu.get d
     (∀ e : Door, e ≠ d → t.dcu.get e = s.dcu.get e ∨
       ((s.dcu.get e).phase = .released ∧ (t.dcu.get e).phase = .shut)) ∧
     (r.phase = .shut → s.ciu.perms.door.get d = true →
       t.answered .b 0x14#8 .done (doorReport d [false, false, false] t) ∧ t.attended .doorPhaseChanged = true ∧
       (s.shc.state = .releasing → t.shc.state = .applying) ∧
       (t.dcu.get d = { r with phase := .released, phaseTimer := some 30000, moving := (t.dcu.get d).moving } ∨
         ((t.dcu.get d).phase = .shut ∧ (t.dcu.get d).phaseTimer = none ∧ t.ciu.perms.door.get d = false))) ∧
     (r.phase = .shut → s.ciu.perms.door.get d = false →
       s.onlyRead .b t ∧ t.answered .b 0x14#8 .refusedInterlock (doorReport d [true, false, false] t)) ∧
     (r.phase = .unsettled →
       s.onlyRead .b t ∧ t.answered .b 0x14#8 .refusedInterlock (doorReport d [false, false, true] t)) ∧
     (r.phase = .released ∨ r.phase = .opened ∨ r.phase = .closing ∨ r.phase = .obstructed →
       s.onlyRead .b t ∧ t.answered .b 0x14#8 .done (doorReport d [false, false, false] t)))) ∧
  (∀ (s : State) (d : Door), s.hears .b = true → s.pfs.mode = .run →
    ∃ t, exec (.doorClose .b [1#8, BitVec.ofNat 8 d.number]) s = .next t ∧ s.keepsOthers .b t ∧ t.sa = s.sa ∧
    (let r := s.dcu.get d
     (∀ e : Door, e ≠ d → t.dcu.get e = s.dcu.get e ∨
       ((s.dcu.get e).phase = .released ∧ (t.dcu.get e).phase = .shut)) ∧
     (r.phase = .released →
       t.answered .b 0x14#8 .done (doorReport d [false, false, false] t) ∧ t.attended .doorPhaseChanged = true ∧
       t.dcu.get d = { r with
         phase := .shut, phaseTimer := none, proofTimer := none, forced := false,
         proofTimeout := false, moving := false }) ∧
     (r.phase = .opened → r.pressed = false →
       t.answered .b 0x14#8 .done (doorReport d [false, false, false] t) ∧ t.attended .doorPhaseChanged = true ∧
       t.dcu.get d = { r with
         phase := .closing, phaseTimer := some 15000, proofTimeout := false,
         proofTimer := if r.closed = .made then some 200 else none, moving := (t.dcu.get d).moving }) ∧
     ((r.phase = .opened ∧ r.pressed = true) ∨ r.phase = .obstructed →
       s.onlyRead .b t ∧ t.answered .b 0x14#8 .refusedInterlock (doorReport d [false, true, false] t)) ∧
     (r.phase = .unsettled →
       s.onlyRead .b t ∧ t.answered .b 0x14#8 .refusedInterlock (doorReport d [false, false, true] t)) ∧
     (r.phase = .closing ∨ r.phase = .shut →
       s.onlyRead .b t ∧ t.answered .b 0x14#8 .done (doorReport d [false, false, false] t)))) ∧
  (∀ (s : State) (n : Byte), s.hears .b = true → s.pfs.mode = .run → n.toNat = 0 ∨ 4 < n.toNat →
    (∃ t, exec (.doorOpen .b [0#8, n]) s = .next t ∧ s.onlyRead .b t ∧ t.answered .b 0x14#8 .refusedRange []) ∧
    (∃ t, exec (.doorClose .b [1#8, n]) s = .next t ∧ s.onlyRead .b t ∧ t.answered .b 0x14#8 .refusedRange []))

/-- DOOR_SETTLE, CLOSED_SWITCH_MAKE and _BREAK, EDGE_SWITCH_PRESS and _RELEASE by phase. Model's choices in it: log
entries 16, 17, 49 (spec/04 section 4.3, spec/04 section 4.4, spec/04 section 4.5, spec/04 section 4.6, spec/04
section 4.11). -/
def Obligations.DoorSwitchEventsMoveTheDoor : Prop :=
  (∀ (s : State) (d : Door) (made : Bool), s.rst.low = false → (s.dcu.get d).closed = .undetermined →
    ∃ t, exec (.doorSettle d made) s = .next t ∧ s.keepsImage t ∧
    (t.dcu.get d).phase = (if made then .shut else .opened) ∧
    (t.dcu.get d).closed = (if made then .made else .broken) ∧ (t.dcu.get d).pressed = (s.dcu.get d).pressed ∧
    ((s.dcu.get d).phase = .unsettled → t.ciu.pass.isSome = true ∧ (s.ciu.pass.isSome = true → t.ciu.again = true))) ∧
  (∀ (s : State) (d : Door), s.rst.low = false → (s.dcu.get d).closed = .broken →
    ∃ t, exec (.closedSwitchMake d) s = .next t ∧ s.keepsImage t ∧ (t.dcu.get d).closed = .made ∧
    ((s.dcu.get d).phase ≠ .released →
      t.dcu.get d = { s.dcu.get d with
        closed := .made, closedCount := 0,
        proofTimer :=
          if (s.dcu.get d).phase = .closing ∨
            (s.pfs.mode ≠ .run ∧ ((s.dcu.get d).phase = .opened ∨ (s.dcu.get d).phase = .obstructed)) then some 200
          else (s.dcu.get d).proofTimer })) ∧
  (∀ (s : State) (d : Door), s.rst.low = false → (s.dcu.get d).closed = .made →
    ∃ t, exec (.closedSwitchBreak d) s = .next t ∧ s.keepsImage t ∧
    (let r := s.dcu.get d
     (r.phase = .shut →
       t.dcu.get d = { r with
         closed := .broken, closedCount := 0, phase := .opened, forced := true,
         moving := (t.dcu.get d).moving } ∧ t.reports .doorForced d.number = true ∧
       t.attended .doorPhaseChanged = true ∧
       (s.pfs.mode = .run → (s.shc.state = .releasing → t.shc.state = .applying) ∧
         (s.shc.state = .released →
           s.sa.image.vspd.validity ≠ .lost ∧ s.sa.image.vspd.value ≤ s.prm.hold.entrySpeed →
           t.shc.state = .applying) ∧
         (s.shc.state = .released →
           ¬ (s.sa.image.vspd.validity ≠ .lost ∧ s.sa.image.vspd.value ≤ s.prm.hold.entrySpeed) →
           t.shc = { s.shc with pendingApply := true }))) ∧
     (r.phase = .released →
       t.dcu.get d = { r with
         closed := .broken, closedCount := 0, phase := .opened, phaseTimer := none,
         proofTimer := none, moving := (t.dcu.get d).moving }) ∧
     (r.phase = .opened ∨ r.phase = .closing ∨ r.phase = .obstructed →
       t.dcu.get d = { r with closed := .broken, closedCount := 0, proofTimer := none }))) ∧
  (∀ (s : State) (d : Door), s.rst.low = false → (s.dcu.get d).pressed = false →
    ∃ t, exec (.edgeSwitchPress d) s = .next t ∧ s.keepsImage t ∧ (t.dcu.get d).pressed = true ∧
    ((s.dcu.get d).phase = .closing →
      t.dcu.get d = { s.dcu.get d with
        pressed := true, edgeCount := 0, phase := .obstructed, phaseTimer := none,
        proofTimer := none, proofTimeout := false, moving := (t.dcu.get d).moving } ∧
      ((s.dcu.get d).proofTimeout = true → t.ended .doorProofTimeout d.number = true)) ∧
    ((s.dcu.get d).phase ≠ .closing → (s.dcu.get d).phase ≠ .released →
      t.dcu.get d = { s.dcu.get d with pressed := true, edgeCount := 0 })) ∧
  (∀ (s : State) (d : Door), s.rst.low = false → (s.dcu.get d).pressed = true →
    ∃ t, exec (.edgeSwitchRelease d) s = .next t ∧ s.keepsImage t ∧ (t.dcu.get d).pressed = false ∧
    ((s.dcu.get d).phase = .obstructed →
      t.dcu.get d = { s.dcu.get d with
        pressed := false, edgeCount := 0, phase := .opened,
        moving := (t.dcu.get d).moving }) ∧
    ((s.dcu.get d).phase ≠ .obstructed → (s.dcu.get d).phase ≠ .released →
      t.dcu.get d = { s.dcu.get d with pressed := false, edgeCount := 0 }))

/-- PHASE_TIMER_EXPIRY, PROOF_TIMER_EXPIRY, the debouncing of DOOR_SWITCH_SAMPLE (log entry 16), and DOOR_OPEN_MOVING
after every step. Model's choices in it: log entries 2, 16 (spec/04 section 4.2, spec/04 section 4.3, spec/04
section 4.4, spec/04 section 4.5, spec/04 section 4.6, spec/04 section 4.9). -/
def Obligations.DoorTimersAndSamplesMoveTheDoor : Prop :=
  (∀ (s : State) (d : Door), s.rst.low = false → (s.dcu.get d).phaseTimer.isSome = true →
    ∃ t, exec (.phaseTimerExpiry d) s = .next t ∧ s.keepsImage t ∧ (t.dcu.get d).phaseTimer = none ∧
    ((s.dcu.get d).phase = .released →
      t.dcu.get d = { s.dcu.get d with
        phase := .shut, phaseTimer := none, proofTimer := none, forced := false,
        proofTimeout := false, moving := false }) ∧
    ((s.dcu.get d).phase = .closing →
      t.dcu.get d = { s.dcu.get d with phaseTimer := none, proofTimeout := true } ∧
      t.reports .doorProofTimeout d.number = true)) ∧
  (∀ (s : State) (d : Door), s.rst.low = false → (s.dcu.get d).proofTimer.isSome = true →
    ∃ t, exec (.proofTimerExpiry d) s = .next t ∧ s.keepsImage t ∧ (t.dcu.get d).proofTimer = none ∧
    ((s.dcu.get d).phase = .closing ∨ (s.dcu.get d).phase = .opened ∨ (s.dcu.get d).phase = .obstructed →
      t.dcu.get d = { s.dcu.get d with
        phase := .shut, phaseTimer := none, proofTimer := none, forced := false,
        proofTimeout := false, moving := false } ∧
      ((s.dcu.get d).forced = true → t.ended .doorForced d.number = true) ∧
      ((s.dcu.get d).proofTimeout = true → t.ended .doorProofTimeout d.number = true) ∧
      t.attended .doorPhaseChanged = true)) ∧
  (∀ (s : State) (closed pressed : PerDoor Bool), s.rst.low = false →
    ∃ t, exec (.doorSwitchSample closed pressed) s = .next t ∧ s.keepsImage t ∧ (∀ d : Door,
    let r := s.dcu.get d
    let q := t.dcu.get d
    let level := if closed.get d then Contact.made else Contact.broken
    (r.closed = level → q.closed = level ∧ q.closedCount = 0) ∧
    (r.closed ≠ .undetermined → r.closed ≠ level → r.closedCount < 19 →
      q.closed = r.closed ∧ q.closedCount = r.closedCount + 1) ∧
    (r.closed ≠ .undetermined → r.closed ≠ level → 19 ≤ r.closedCount → q.closed = level ∧ q.closedCount = 0) ∧
    (r.closed = .undetermined →
      let n := if closed.get d = r.closedLevel then r.closedCount + 1 else 1
      (n < 20 → q.closed = .undetermined ∧ q.closedCount = n ∧ q.closedLevel = closed.get d) ∧
      (20 ≤ n → q.closed = level ∧ q.phase ≠ .unsettled)) ∧
    (pressed.get d = r.pressed → q.pressed = r.pressed ∧ q.edgeCount = 0) ∧
    (pressed.get d ≠ r.pressed → r.edgeCount < 9 → q.pressed = r.pressed ∧ q.edgeCount = r.edgeCount + 1) ∧
    (pressed.get d ≠ r.pressed → 9 ≤ r.edgeCount → q.pressed = pressed.get d ∧ q.edgeCount = 0))) ∧
  (∀ (s : State), s.movingSound = true → ∀ t, step s = .next t → t.movingSound = true ∧
    ∀ d : Door,
      let r := s.dcu.get d
      let q := t.dcu.get d
      (q.phase = .shut → q.moving = false) ∧
      (q.phase ≠ .shut → t.sa.image.vspd.validity ≠ .lost → (q.moving = true ↔ 500 < t.sa.image.vspd.value)) ∧
      (q.phase = r.phase → t.sa.image.vspd.validity = .lost → q.moving = r.moving) ∧
      (r.moving = false → q.moving = true → t.reports .doorOpenMoving d.number = true) ∧
      (r.moving = true → q.moving = false → t.ended .doorOpenMoving d.number = true))

/-- LEVELLING_COMPUTATION: errors, demands, act mask, deadband, widths, delays, staging and commit. Model's choices in
it: log entries 22, 30 (spec/05 section 5.1, spec/08 section 8.3, spec/09 section 9.3). -/
def Obligations.LevellingComputationFollowsItsFormulas : Prop :=
  ∀ (s : State) (w : LevelInputs), s.rst.low = false → s.lvu.work = some w →
    ∃ t, exec .levellingComputation s = .next t ∧
    (let stand := decide (w.vspd.validity ≠ .lost ∧ w.vspd.value ≤ 300)
     let db := if stand then w.params.dbStand else w.params.dbDrive
     let limit := if stand then w.params.maxWidthStand else w.params.maxWidthDrive
     let error := fun i => if (w.hgt.get i).validity = .lost then 0 else w.target.get i - (w.hgt.get i).value
     let demand := fun i =>
       let k := w.params.coupling.get i
       max (-3000) (min 3000 (Int.tdiv (k.al * error .al + (k.ar * error .ar + (k.bl * error .bl +
         (k.br * error .br + (k.cl * error .cl + (k.cr * error .cr + 0)))))) 1024))
     let mask := if w.mode ≠ .run then 0#6
       else if w.kneel ≠ .ride then w.levelSet &&& ~~~w.pauseSet
       else if stand then w.levelSet
       else if w.levelDrive then w.levelSet &&& w.driveSet else 0#6
     let width := fun (i : Corner) (d gain : Int) =>
       if hasCorner mask i ∧ db < d then
         (let delay := (i.num : Int) * w.params.stagger
          let x := min limit (max w.params.minPulse (Int.tdiv (d * gain) 64))
          if 1000 < delay + x then 1000 - delay else x)
       else 0
     t.lvu = { s.lvu with
       work := none
       record :=
        { num := s.lvu.record.num + 1, speed := if stand then .stand else .motion, actMask := mask, deadband := db,
          limit := limit, error := .ofFn error, demand := .ofFn demand, pauseSet := w.pauseSet,
          levelDrive := w.levelDrive,
          fill := .ofFn fun i => ⟨i.num * w.params.stagger,
            if 0 < demand i then width i (demand i) (w.params.kfill.get i) else 0⟩
          vent := .ofFn fun i => ⟨i.num * w.params.stagger,
            if demand i < 0 then width i (-demand i) (w.params.kvent.get i) else 0⟩ } }) ∧
    t.pfu = { s.pfu with
      staged := { s.pfu.staged with fill := t.lvu.record.fill, vent := t.lvu.record.vent }
      group := s.pfu.group.set .lvl
        { s.pfu.group.lvl with commit := true, starve := some 300, starved := false } } ∧
    (s.pfu.group.lvl.starved = true → t.ended .frameStarved 1 = true) ∧
    s.keepsImage t ∧ t.shc = s.shc ∧ t.dcu = s.dcu ∧ t.kns = s.kns ∧ t.bdu = s.bdu ∧ t.sju = s.left.sju ∧
    t.ciu = { s.ciu with pass := t.ciu.pass, again := t.ciu.again }

/-- HEIGHT_MODE_NORMAL and HEIGHT_MODE_RAISED: the mode, the height rewrite and the refusal. Model's choices in it: log
entries 25, 50 (spec/05 section 5.2). -/
def Obligations.HeightModeCommandsRewriteTheTargets : Prop :=
  (∀ (s : State), s.hears .f = true → s.pfs.mode = .run →
    ∃ t, exec (.heightModeNormal .f [0#8]) s = .next t ∧ s.keepsOthers .f t ∧ t.sa = s.sa ∧ t.lvu.heightMode = .normal ∧
    t.lvu = { s.lvu with heightMode := .normal, target := t.lvu.target } ∧
    t.answered .f 0x12#8 .done (heightReport t) ∧
    (s.lvu.heightMode = .raised → ∀ i : Corner,
      hasCorner s.lvu.kneelSet i = false ∨ s.kns.state = .raising → t.lvu.target.get i = 0) ∧
    (s.lvu.heightMode = .normal → s.onlyRead .f t)) ∧
  (∀ (s : State), s.hears .f = true → s.pfs.mode = .run → s.floorsSound = true →
    ∃ t, exec (.heightModeRaised .f [1#8]) s = .next t ∧ s.keepsOthers .f t ∧ t.sa = s.sa ∧
    (s.lvu.heightMode = .raised → s.onlyRead .f t ∧ t.answered .f 0x12#8 .done (heightReport s)) ∧
    (s.lvu.heightMode = .normal → s.ciu.perms.heightRaised = true →
      t.lvu = { s.lvu with heightMode := .raised, target := t.lvu.target } ∧
      t.answered .f 0x12#8 .done (heightReport t) ∧
      (∀ i : Corner, hasCorner s.lvu.kneelSet i = false ∨ s.kns.state = .raising →
        t.lvu.target.get i = if hasCorner s.lvu.raiseSet i then
          max (-3000) (min 3000 s.prm.level.raiseHeight) else 0)) ∧
    (s.lvu.heightMode = .normal → s.ciu.perms.heightRaised = false →
      s.onlyRead .f t ∧ t.answered .f 0x12#8 .refusedInterlock (heightReport s)))

/-- SET_MASK: the content stored, the kneel set cut, the corners returned, and the end of an empty kneel. Model's
choices in it: log entries 25, 26, 55 (spec/05 section 5.3, spec/06 section 6.6). -/
def Obligations.SetMaskStoresAndCutsTheKneelSet : Prop :=
  ∀ (s : State) (p : PortId) (dest pattern e : Byte), s.hears p = true → s.pfs.mode = .run → (p = .f ∨ p = .b) →
    ∃ t, exec (.setMask p [dest, pattern, e]) s = .next t ∧ s.keepsOthers p t ∧
    (let bad := dest.toNat < 2 ∨ 4 < dest.toNat ∨ 63 < pattern.toNat ∨ (e.toNat ≠ 255 ∧ 11 < e.toNat)
     let m := if e.toNat = 255 then BitVec.ofNat 6 pattern.toNat
       else BitVec.ofNat 6 pattern.toNat &&& s.maskEntry e.toNat
     let removed := if dest.toNat = 2 then s.lvu.kneelSet &&& ~~~m else 0#6
     (bad → s.onlyRead p t ∧ t.answered p 0x16#8 .refusedRange []) ∧
     (¬ bad →
       t.answered p 0x16#8 .done (cornerField m ++ cornerField t.lvu.kneelSet ++ cornerField t.lvu.levelSet ++
         cornerField t.lvu.raiseSet ++ cornerField t.lvu.driveSet ++ cornerField removed) ∧
       t.lvu.kneelSet = s.lvu.kneelSet &&& ~~~removed ∧
       t.lvu.levelSet = (if dest.toNat = 2 then m else s.lvu.levelSet) ∧
       t.lvu.raiseSet = (if dest.toNat = 3 then m else s.lvu.raiseSet) ∧
       t.lvu.driveSet = (if dest.toNat = 4 then m else s.lvu.driveSet) ∧
       t.lvu.record = s.lvu.record ∧ t.lvu.work = s.lvu.work ∧
       (t.lvu.heightMode = s.lvu.heightMode →
         (∀ i : Corner, hasCorner removed i = true →
           t.lvu.target.get i = max (-3000) (min 3000 (s.rideTarget i))) ∧
         (∀ i : Corner, dest.toNat = 3 → s.lvu.heightMode = .raised → hasCorner s.lvu.kneelSet i = false →
           t.lvu.target.get i = max (-3000) (min 3000 (if hasCorner m i then s.prm.level.raiseHeight else 0)))) ∧
       (dest.toNat = 2 → t.lvu.kneelSet = 0#6 → s.kns.state ≠ .ride →
         t.kns.state = .ride ∧ t.kns.freeze = false ∧ t.kns.lowering = none ∧ t.kns.raising = none ∧
           t.attended .kneelStateChanged = true) ∧
       (dest.toNat ≠ 2 ∨ t.lvu.kneelSet ≠ 0#6 ∨ s.kns.state = .ride → t.sa = s.sa)))

/-- KNEEL, HALT and RAISE: entries to LOWERING, PAUSED and RAISING, and the refusals. Model's choices in it: log entries
19, 25, 56 (spec/06 section 6.3, spec/06 section 6.4, spec/06 section 6.5). -/
def Obligations.KneelCommandsMoveTheKneel : Prop :=
  (∀ (s : State) (kind : KneelKind), s.hears .b = true → s.pfs.mode = .run →
    ∃ t, exec (.kneel .b [0#8, BitVec.ofNat 8 kind.code]) s = .next t ∧ s.keepsOthers .b t ∧ t.sa = s.sa ∧
    (let side := match s.prm.kneel.curbSide with
       | .left => 0x15#6
       | .right => 0x2A#6
     let corners := (match kind with
       | .front => side &&& 0x03#6
       | .full => side) &&& s.lvu.levelSet
     let lowered := fun m : Corners =>
       (t.kns.state = .lowering ∧ t.kns.lowering = some s.prm.kneel.lowerTime ∧ t.kns.pauseSet = 0#6 ∧
         ∀ i ∈ Corner.all, hasCorner m i = true →
           t.lvu.target.get i = max (-3000) (min 3000 s.prm.kneel.kneelDepth)) ∨
       (t.kns.state = .paused ∧ t.kns.lowering = none ∧ t.ciu.perms.kneel = false)
     (s.kns.state = .ride → s.ciu.perms.kneel = true → corners ≠ 0#6 →
       t.lvu.kneelSet = corners ∧ t.kns.kind = kind ∧ t.kns.freeze = true ∧ lowered corners ∧
       t.attended .kneelStateChanged = true ∧ t.answered .b 0x13#8 .done (kneelReport noBlocks t)) ∧
     (s.kns.state = .ride → s.ciu.perms.kneel = false →
       s.onlyRead .b t ∧ t.answered .b 0x13#8 .refusedInterlock (kneelReport blockPermission s)) ∧
     (s.kns.state = .ride → s.ciu.perms.kneel = true → corners = 0#6 →
       s.onlyRead .b t ∧ t.answered .b 0x13#8 .refusedInterlock (kneelReport blockNoCorners s)) ∧
     (s.kns.state = .paused → s.ciu.perms.kneel = true →
       t.lvu.kneelSet = s.lvu.kneelSet ∧ t.kns.kind = s.kns.kind ∧ t.kns.freeze = s.kns.freeze ∧
       lowered s.lvu.kneelSet ∧ t.answered .b 0x13#8 .done (kneelReport noBlocks t)) ∧
     (s.kns.state = .paused → s.ciu.perms.kneel = false →
       s.onlyRead .b t ∧ t.answered .b 0x13#8 .refusedInterlock (kneelReport blockPermission s)) ∧
     (s.kns.state = .lowering ∨ s.kns.state = .knelt →
       s.onlyRead .b t ∧ t.answered .b 0x13#8 .done (kneelReport noBlocks s)) ∧
     (s.kns.state = .raising →
       s.onlyRead .b t ∧ t.answered .b 0x13#8 .refusedInterlock (kneelReport blockRaising s)))) ∧
  (∀ (s : State) (x : Byte), s.hears .b = true → s.pfs.mode = .run →
    ∃ t, exec (.halt .b [1#8, x]) s = .next t ∧ s.keepsOthers .b t ∧ t.sa = s.sa ∧
    (s.kns.state = .lowering →
      t.kns = { s.kns with state := .paused, lowering := none, pauseSet := 0#6 } ∧
      (∀ i : Corner, hasCorner s.lvu.kneelSet i = true → t.lvu.target.get i =
        max (-3000) (min 3000 (if (s.sa.image.hgt.get i).validity = .lost then s.lvu.target.get i
          else (s.sa.image.hgt.get i).value))) ∧
      t.attended .kneelStateChanged = true ∧ t.answered .b 0x13#8 .done (kneelReport noBlocks t)) ∧
    (s.kns.state = .ride ∨ s.kns.state = .paused ∨ s.kns.state = .knelt →
      s.onlyRead .b t ∧ t.answered .b 0x13#8 .done (kneelReport noBlocks s)) ∧
    (s.kns.state = .raising →
      s.onlyRead .b t ∧ t.answered .b 0x13#8 .refusedInterlock (kneelReport blockRaising s))) ∧
  (∀ (s : State) (p : PortId) (x : Byte), s.hears p = true → s.pfs.mode = .run → (p = .f ∨ p = .b) →
    ∃ t, exec (.raise p [2#8, x]) s = .next t ∧ s.keepsOthers p t ∧ t.sa = s.sa ∧
    (let moved := s.kns.state = .lowering ∨ s.kns.state = .paused ∨ s.kns.state = .knelt
     (moved → s.allShut = true →
       t.kns = { s.kns with
         state := .raising, lowering := none, pauseSet := 0#6, behind := 0#6,
         raising := some s.prm.kneel.raiseTime } ∧ t.attended .kneelStateChanged = true ∧
       (t.lvu.heightMode = s.lvu.heightMode → ∀ i : Corner, hasCorner s.lvu.kneelSet i = true →
         t.lvu.target.get i = max (-3000) (min 3000 (s.rideTarget i))) ∧
       t.answered p 0x13#8 .done (kneelReport noBlocks t)) ∧
     (moved → s.allShut = false →
       s.onlyRead p t ∧ t.answered p 0x13#8 .refusedInterlock (kneelReport
         ([false, false, false] ++ Door.all.map fun d => decide ((s.dcu.get d).phase ≠ .shut)) s)) ∧
     (s.kns.state = .raising →
       t.kns = { s.kns with raising := some s.prm.kneel.raiseTime } ∧
       (t.lvu.heightMode = s.lvu.heightMode → ∀ i : Corner, t.lvu.target.get i =
         if hasCorner s.lvu.kneelSet i then max (-3000) (min 3000 (s.rideTarget i)) else s.lvu.target.get i) ∧
       t.answered p 0x13#8 .done (kneelReport noBlocks t)) ∧
     (s.kns.state = .ride → s.onlyRead p t ∧ t.answered p 0x13#8 .done (kneelReport noBlocks s))))

/-- LOWERING_TIMER_EXPIRY and RAISING_TIMER_EXPIRY: PAUSED, and the corners that have not arrived. Model's choices in
it: log entries 2, 19 (spec/06 section 6.4, spec/06 section 6.5). -/
def Obligations.KneelTimersReportTheCornersBehind : Prop :=
  (∀ (s : State), s.rst.low = false → s.kns.lowering.isSome = true → s.kns.state = .lowering →
    ∃ t, exec .loweringTimerExpiry s = .next t ∧ s.keepsImage t ∧ t.kns.state = .paused ∧ t.kns.lowering = none ∧
    t.kns.kneelTimeouts = s.kns.kneelTimeouts ||| (s.kns.behind &&& s.lvu.kneelSet) ∧
    t.attended .kneelStateChanged = true ∧
    (∀ i : Corner, hasCorner (s.kns.behind &&& s.lvu.kneelSet) i = true → t.reports .kneelTimeout i.num = true) ∧
    t.lvu.kneelSet = s.lvu.kneelSet ∧ t.kns.freeze = s.kns.freeze) ∧
  (∀ (s : State), s.rst.low = false → s.kns.raising.isSome = true → s.kns.state = .raising →
    ∃ t, exec .raisingTimerExpiry s = .next t ∧ s.keepsImage t ∧
    t.kns = { s.kns with
      raising := none, raiseTimeouts := s.kns.raiseTimeouts ||| (s.kns.behind &&& s.lvu.kneelSet) } ∧
    (∀ i : Corner, hasCorner (s.kns.behind &&& s.lvu.kneelSet) i = true → t.reports .raiseTimeout i.num = true) ∧
    t.shc = s.shc ∧ t.dcu = s.dcu ∧ t.lvu = s.lvu ∧ t.bdu = s.bdu ∧ t.sju = s.sju ∧ t.pfu = s.pfu ∧
    t.ciu = { s.ciu with pass := t.ciu.pass, again := t.ciu.again })

/-- FRAME_BOUNDARY of LVL: the completion tests, the pause set, and the inputs of the levelling computation. Model's
choices in it: log entries 18, 19, 30 (spec/05 section 5.1, spec/06 section 6.4, spec/06 section 6.7). -/
def Obligations.LevelBoundaryTestsTheKneelAndLimitsTheTwist : Prop :=
  (∀ (s : State),
    let k := s.kns.state
    let tw := s.sa.image.twist
    let drop := fun i : Corner => s.rideTarget i - (s.sa.image.hgt.get i).value
    let front := [Corner.al, .ar, .bl, .br].filter fun i => hasCorner s.lvu.kneelSet i
    let rear := [Corner.cl, .cr].filter fun i => hasCorner s.lvu.kneelSet i
    let pf := Int.tdiv (total (front.map drop)) front.length
    let pr := Int.tdiv (total (rear.map drop)) rear.length
    (k = .ride ∨ k = .paused ∨ k = .knelt → s.pauseSetNow = 0#6) ∧
    (k = .lowering ∨ k = .raising →
      (tw.validity = .lost → s.pauseSetNow = s.lvu.kneelSet) ∧
      (tw.validity ≠ .lost → (tw.value.natAbs : Int) ≤ s.prm.kneel.twistLimit ∨ pf = pr → s.pauseSetNow = 0#6) ∧
      (tw.validity ≠ .lost → s.prm.kneel.twistLimit < (tw.value.natAbs : Int) → pf ≠ pr →
        s.pauseSetNow = s.lvu.kneelSet &&& (if (pr < pf) = (k = .lowering) then 0x0F#6 else 0x30#6)))) ∧
  (∀ (s : State) (order : BoundaryOrder), s.rst.low = false →
    ∃ t, exec (.frameBoundary .lvl order) s = .next t ∧ s.keeps t ∧
    (let away := fun (tol : Int) (i : Corner) => hasCorner s.lvu.kneelSet i = true ∧
       ((s.sa.image.hgt.get i).validity = .lost ∨
         tol < (((s.sa.image.hgt.get i).value - s.lvu.target.get i).natAbs : Int))
     (s.pfs.mode = .run → s.kns.state = .lowering → (∀ i ∈ Corner.all, ¬ away s.prm.kneel.kneelTol i) →
       t.kns.state = (if s.prm.kneel.autoRaise = true ∧ t.allShut = true ∧ s.allShut = false then .raising
         else .knelt) ∧ t.kns.lowering = none ∧ t.kns.kneelTimeouts = 0#6 ∧ t.kns.pauseSet = 0#6) ∧
     (s.pfs.mode = .run → s.kns.state = .raising → (∀ i ∈ Corner.all, ¬ away s.prm.kneel.rideTol i) →
       t.kns.state = .ride ∧ t.lvu.kneelSet = 0#6 ∧ t.kns.raising = none ∧ t.kns.freeze = false ∧
         t.kns.pauseSet = 0#6 ∧ t.attended .kneelStateChanged = true) ∧
     (s.pfs.mode = .run → s.kns.state = .lowering → (∃ i ∈ Corner.all, away s.prm.kneel.kneelTol i) →
       ((t.kns.state = .lowering ∧ t.kns.pauseSet = s.pauseSetNow) ∨
         (t.kns.state = .paused ∧ t.ciu.perms.kneel = false ∧ t.kns.pauseSet = 0#6)) ∧
         (∀ i ∈ Corner.all, hasCorner t.kns.behind i = true ↔ away s.prm.kneel.kneelTol i)) ∧
     (s.pfs.mode = .run → s.kns.state = .raising → (∃ i ∈ Corner.all, away s.prm.kneel.rideTol i) →
       t.kns.state = .raising ∧ t.kns.pauseSet = s.pauseSetNow ∧
         (∀ i ∈ Corner.all, hasCorner t.kns.behind i = true ↔ away s.prm.kneel.rideTol i)) ∧
     (s.pfs.mode ≠ .run → s.kns.state ≠ .lowering → t.kns = s.kns)) ∧
    (let tol := if s.kns.state = .lowering then s.prm.kneel.kneelTol else s.prm.kneel.rideTol
     let done := s.pfs.mode = .run ∧ (s.kns.state = .lowering ∨ s.kns.state = .raising) ∧
       ∀ i ∈ Corner.all, hasCorner s.lvu.kneelSet i = true → (s.sa.image.hgt.get i).validity ≠ .lost ∧
         (((s.sa.image.hgt.get i).value - s.lvu.target.get i).natAbs : Int) ≤ tol
     t.lvu.work = some
       { hgt := s.sa.image.hgt, vspd := s.sa.image.vspd, mode := s.pfs.mode, levelDrive := s.ciu.perms.levelDrive,
         levelSet := s.lvu.levelSet, driveSet := s.lvu.driveSet, params := s.prm.level,
         kneel := if done then (if s.kns.state = .lowering then .knelt else .ride) else s.kns.state,
         pauseSet := if s.pfs.mode ≠ .run then s.kns.pauseSet else if done then 0#6 else s.pauseSetNow,
         target := .ofFn fun i =>
           if done ∧ s.kns.state = .raising ∧ hasCorner s.lvu.kneelSet i = true then
             max (-3000) (min 3000 (s.rideTarget i)) else s.lvu.target.get i }))

/-- The setpoint of an axle from demand, load ratio, effective floor and p_max (R130). -/
def Obligations.SetpointFollowsDemandRatioAndFloor : Prop :=
  ∀ (s : State) (x : Axle), s.demandsSound = true → s.holdSound = true →
    (let dem := max (if s.bdu.service.left = 0 then 0 else s.bdu.service.pressure.get x)
       (if s.bdu.intervention.left = 0 then 0 else s.bdu.intervention.pressure.get x)
     let q := Int.fdiv (dem * s.bdu.ratio.get x) 1024
     let raised := max q (s.shc.floor.get x)
     (s.prm.hold.floor.get x ≤ 0 ∨ s.shc.state = .released → s.shc.floor.get x = 0) ∧
     (s.loaded = true → s.setpoint x = min raised (s.prm.brake.pMax.get x) ∧
       (s.saturated x = true ↔ min raised (s.prm.brake.pMax.get x) < raised))) ∧
    (s.loaded = false → s.setpoint x = 0 ∧ s.saturated x = false)

/-- BRAKE_DEMAND stores the clamped demand of its port's source; DEMAND_EXPIRY ends it; expired means 0. Model's choices
in it: log entries 2, 25, 31 (spec/07 section 7.2). -/
def Obligations.BrakeDemandsAreStoredAndExpire : Prop :=
  (∀ (s : State) (p : PortId) (a1 a0 b1 b0 c1 c0 v1 v0 : Byte), s.hears p = true → s.pfs.mode = .run →
    (p = .f ∨ p = .r) →
    ∃ t, exec (.brakeDemand p [a1, a0, b1, b0, c1, c0, v1, v0]) s = .next t ∧ s.keepsOthers p t ∧ t.sa = s.sa ∧
    (let a := a1.toNat * 256 + a0.toNat
     let b := b1.toNat * 256 + b0.toNat
     let c := c1.toNat * 256 + c0.toNat
     let v := v1.toNat * 256 + v0.toNat
     let stored : Demand := ⟨⟨min 1000 a, min 1000 b, min 1000 c⟩, min 200 (max 10 v)⟩
     (p = .f → t.bdu.service = stored ∧ t.bdu.intervention = s.bdu.intervention) ∧
     (p = .r → t.bdu.intervention = stored ∧ t.bdu.service = s.bdu.service) ∧
     t.answered p 0x10#8
       (if 1000 < a ∨ 1000 < b ∨ 1000 < c ∨ v < 10 ∨ 200 < v then .clamped else .done)
       (byte2 (min 1000 a) ++ byte2 (min 1000 b) ++ byte2 (min 1000 c) ++ byte1 (min 200 (max 10 v)) ++
         byte2 (t.setpoint .a) ++ byte2 (t.setpoint .b) ++ byte2 (t.setpoint .c) ++
         yesNo (t.saturated .a) ++ yesNo (t.saturated .b) ++ yesNo (t.saturated .c) ++
         yesNo (t.abandoned .a) ++ yesNo (t.abandoned .b) ++ yesNo (t.abandoned .c))) ∧
    t.bdu = { s.bdu with
      service := t.bdu.service, intervention := t.bdu.intervention, cause := t.bdu.cause,
      deviation := t.bdu.deviation, deviating := t.bdu.deviating }) ∧
  (∀ (s : State) (src : DemandSource), s.rst.low = false → (s.bdu.demandOf src).left ≠ 0 →
    ∃ t, exec (.demandExpiry src) s = .next t ∧ s.keepsImage t ∧
    (src = .service → t.bdu.service = ⟨⟨0, 0, 0⟩, 0⟩ ∧ t.bdu.intervention = s.bdu.intervention) ∧
    (src = .intervention → t.bdu.intervention = ⟨⟨0, 0, 0⟩, 0⟩ ∧ t.bdu.service = s.bdu.service)) ∧
  (∀ (s : State), s.demandsSound = true → ∀ t, step s = .next t → t.demandsSound = true)

/-- MODULATOR_COMPUTATION and DEVIATION_TIMER_EXPIRY: errors, widths, staging, supervision; and abandonment after every
step. Model's choices in it: log entries 2, 21, 22, 30, 33, 51 (spec/07 section 7.5, spec/07 section 7.6, spec/03
section 3.2, spec/09 section 9.3). -/
def Obligations.ModulatorComputesWidthsAndDeviation : Prop :=
  (∀ (s : State), s.rst.low = false → s.bdu.work = none → exec .modulatorComputation s = .next s.left) ∧
  (∀ (s : State) (w : BrakeInputs), s.rst.low = false → s.bdu.work = some w →
    ∃ t, exec .modulatorComputation s = .next t ∧
    (∀ x : Axle,
      let e := w.setpoint.get x - (w.brp.get x).value
      let width := fun r : Int => max 0 (min 1000 (max r w.params.minPulse))
      let off := w.mode ≠ .run ∨ w.abandoned.get x = true ∨ (e.natAbs : Int) ≤ w.params.dbBrake
      let watched := w.mode = .run ∧ s.pfs.mode = .run ∧ w.abandoned.get x = false ∧ s.abandoned x = false
      t.bdu.last.get x = (if off then ⟨e, 0, 0⟩
        else if 0 < e then ⟨e, width (Int.tdiv (e * w.params.kin.get x) 16), 0⟩
        else ⟨e, 0, width (Int.tdiv ((e.natAbs : Int) * w.params.kex.get x) 16)⟩) ∧
      t.pfu.staged.inlet.get x = (t.bdu.last.get x).inlet ∧ t.pfu.staged.exhaust.get x = (t.bdu.last.get x).exhaust ∧
      (watched → 100 < e.natAbs → s.bdu.deviation.get x = none → s.bdu.deviating.get x = false →
        t.bdu.deviation.get x = some 500 ∧ t.bdu.deviating.get x = false) ∧
      (watched → e.natAbs ≤ 100 → t.bdu.deviation.get x = none ∧ t.bdu.deviating.get x = false ∧
        (s.bdu.deviating.get x = true → t.ended .brakeDeviation x.num = true)) ∧
      (¬ watched ∨ (100 < e.natAbs ∧ (s.bdu.deviation.get x ≠ none ∨ s.bdu.deviating.get x = true)) →
        t.bdu.deviation.get x = s.bdu.deviation.get x ∧ t.bdu.deviating.get x = s.bdu.deviating.get x)) ∧
    t.bdu = { s.bdu with
      last := t.bdu.last, compNum := s.bdu.compNum + 1, work := none, deviation := t.bdu.deviation,
      deviating := t.bdu.deviating } ∧
    t.pfu = { s.pfu with
      staged := { s.pfu.staged with inlet := t.pfu.staged.inlet, exhaust := t.pfu.staged.exhaust }
      group := s.pfu.group.set .brk { s.pfu.group.brk with commit := true, starve := some 30, starved := false } } ∧
    (s.pfu.group.brk.starved = true → t.ended .frameStarved 0 = true) ∧
    s.keepsImage t ∧ t.shc = s.shc ∧ t.dcu = s.dcu ∧ t.lvu = s.lvu ∧ t.kns = s.kns ∧ t.sju = s.left.sju) ∧
  (∀ (s : State) (x : Axle), s.rst.low = false → (s.bdu.deviation.get x).isSome = true →
    ∃ t, exec (.deviationTimerExpiry x) s = .next t ∧
    t.bdu = { s.bdu with deviation := s.bdu.deviation.set x none, deviating := s.bdu.deviating.set x true } ∧
    t.reports .brakeDeviation x.num = true ∧ s.keepsImage t ∧ t.shc = s.shc ∧ t.dcu = s.dcu ∧ t.lvu = s.lvu ∧
    t.kns = s.kns ∧ t.sju = s.left.sju ∧ t.pfu = s.pfu) ∧
  (∀ (s : State), s.abandonSound = true → ∀ t, step s = .next t → t.abandonSound = true ∧
    ∀ x : Axle,
      let brp := t.sa.image.brp.get x
      let inlet := (t.pfu.chan.inlet.get x).state
      let exhaust := (t.pfu.chan.exhaust.get x).state
      (t.pfs.mode = .run ∨ t.pfs.mode = .safe →
        ((t.bdu.cause.get x).brpLost = true ↔ brp.validity = .lost) ∧
        ((t.bdu.cause.get x).inlet = true ↔ inlet = .tripped ∨ inlet = .rearmPending) ∧
        ((t.bdu.cause.get x).exhaust = true ↔ exhaust = .tripped ∨ exhaust = .rearmPending)) ∧
      (t.pfs.mode = .run →
        (t.backupEnergized x = true ↔ brp.validity ≠ .lost ∧ inlet = .armed ∧ exhaust = .armed)) ∧
      (t.pfs.mode ≠ .run → t.backupEnergized x = false) ∧
      (s.abandoned x = false → t.abandoned x = true →
        t.bdu.deviation.get x = none ∧ t.bdu.deviating.get x = false ∧
        (s.bdu.deviating.get x = true → t.ended .brakeDeviation x.num = true) ∧
        (0 < t.prm.hold.floor.get x → t.shc.state ≠ .applied)))

/-- STEER_UPDATE: gain, target, commanded angle, error, duty, settle and tracking timers, commit. Model's choices in it:
log entries 20, 21, 22 (spec/08 section 8.2, spec/08 section 8.4, spec/09 section 9.3). -/
def Obligations.SteerUpdateFollowsItsFormulas : Prop :=
  (∀ (table : List (Int × Int)) (r : Rec),
    (r.validity = .lost → gainOf table r = 0) ∧
    (r.validity ≠ .lost →
      (∀ v g rest, table = (v, g) :: rest → r.value ≤ v → gainOf table r = g) ∧
      ((table.map (·.1)).Pairwise (· < ·) →
        (∀ pre v0 g0 v1 g1 post, table = pre ++ (v0, g0) :: (v1, g1) :: post → v0 ≤ r.value → r.value < v1 →
          gainOf table r = g0 + Int.tdiv ((g1 - g0) * (r.value - v0)) (v1 - v0)) ∧
        (∀ pre v g, table = pre ++ [(v, g)] → v ≤ r.value → gainOf table r = g)))) ∧
  (∀ (s : State), s.rst.low = false → ∃ t, exec .steerUpdate s = .next t ∧
    (let p := s.prm.steer
     let rst := s.sa.image.rst
     let g := gainOf p.table s.sa.image.vspd
     let target := if s.sju.state = .free then
       max (-p.maxAngle) (min p.maxAngle (p.polarity * -(Int.tdiv (s.sa.image.art.value * g) 1024))) else 0
     let moving := s.sju.state = .free ∨ s.sju.state = .centring
     let c := if moving then s.sju.angle + max (-p.rate) (min p.rate (target - s.sju.angle)) else 0
     let err := c - rst.value
     let loop := s.pfs.mode = .run ∧ moving
     let duty := if loop ∧ rst.validity ≠ .lost ∧ 3 < err.natAbs then
       max (-p.dMax) (min p.dMax (Int.tdiv (err * p.kp) 256)) else 0
     let settling := c = 0 ∧ rst.validity ≠ .lost ∧ rst.value.natAbs ≤ 10
     let updated := { s.sju with
       angle := c, target := target, gain := g, err := err, duty := duty, steerNum := s.sju.steerNum + 1,
       settle := if s.sju.state = .centring then (if settling then some (s.sju.settle.getD 100) else none)
         else s.sju.settle
       tracking := if loop ∧ rst.validity ≠ .lost then
         (if 150 < err.natAbs then some (s.sju.tracking.getD 500) else none) else s.sju.tracking }
     t.sju = (if s.centringDue then
       { updated with state := .centring, target := 0, centring := some 3000, settle := none } else updated) ∧
     t.pfu = { s.pfu with
       staged := { s.pfu.staged with bridge := duty }
       group := s.pfu.group.set .str { s.pfu.group.str with commit := true, starve := some 6, starved := false } }) ∧
    (s.pfu.group.str.starved = true → t.ended .frameStarved 2 = true) ∧
    s.keepsImage t ∧ t.shc = s.shc ∧ t.dcu = s.dcu ∧ t.lvu = s.lvu ∧ t.kns = s.kns ∧ t.bdu = s.bdu)

/-- SETTLE_, CENTRING_ and TRACKING_TIMER_EXPIRY, and JOINT_COMPUTATION. Model's choices in it: log entries 2, 22, 30,
44 (spec/08 section 8.2, spec/08 section 8.3, spec/08 section 8.4, spec/08 section 8.5). -/
def Obligations.SteerTimersAndTheJointComputation : Prop :=
  (∀ (s : State), s.rst.low = false → s.sju.settle.isSome = true → s.sju.state = .centring → s.lockCaused = true →
    ∃ t, exec .settleTimerExpiry s = .next t ∧ s.keepsImage t ∧
    (t.sju.state = .locked ∨
      (t.sju.state = .faulted ∧ s.pfu.chan.bridge.state ≠ .tripped ∧ t.pfu.chan.bridge.state = .tripped)) ∧
    t.sju.settle = none ∧ t.sju.centring = none ∧ t.sju.tracking = none ∧ t.sju.centringTimeout = false ∧
    t.sju.trackingError = false ∧ t.pfu.staged.bridge = 0 ∧ t.pfu.group.str.commit = true ∧
    t.attended .steerStateChanged = true ∧
    (s.sju.centringTimeout = true → t.ended .steerCentringTimeout 2 = true) ∧
    (s.sju.trackingError = true → t.ended .steerTrackingError 2 = true)) ∧
  (∀ (s : State), s.rst.low = false → s.sju.centring.isSome = true → s.sju.state = .centring →
    ∃ t, exec .centringTimerExpiry s = .next t ∧ s.keepsImage t ∧
    t.sju = { s.sju with
      state := .faulted, angle := 0, target := 0, centring := none, settle := none, tracking := none,
      centringTimeout := true } ∧
    t.reports .steerCentringTimeout 2 = true ∧ t.attended .steerStateChanged = true ∧ t.pfu.staged.bridge = 0 ∧
    t.pfu.group.str = { s.pfu.group.str with commit := true, starve := some 6, starved := false }) ∧
  (∀ (s : State), s.rst.low = false → s.sju.tracking.isSome = true → s.sju.state ≠ .faulted →
    ∃ t, exec .trackingTimerExpiry s = .next t ∧ s.keepsImage t ∧
    t.sju = { s.sju with
      state := .faulted, angle := 0, target := 0, centring := none, settle := none, tracking := none,
      trackingError := true } ∧
    t.reports .steerTrackingError 2 = true ∧ t.attended .steerStateChanged = true ∧ t.pfu.staged.bridge = 0 ∧
    t.pfu.group.str = { s.pfu.group.str with commit := true, starve := some 6, starved := false }) ∧
  (∀ (s : State), s.rst.low = false → s.sju.work = none → exec .jointComputation s = .next s.left) ∧
  (∀ (s : State), s.rst.low = false → s.lvu.work = none → exec .levellingComputation s = .next s.left) ∧
  (∀ (s : State) (w : JointInputs), s.rst.low = false → s.sju.work = some w →
    ∃ t, exec .jointComputation s = .next t ∧
    (let p := w.params
     let rate := Int.tdiv ((w.artRate.value.natAbs : Int) * p.kj) 1024
     let retarder := if w.retarder then p.dRet else 0
     let angle := if p.angleLimit < (w.art.value.natAbs : Int) then p.dLim else 0
     let d := max 0 (min 1000 (p.dBase + rate + retarder + angle))
     (w.art.validity ≠ .lost ∧ w.artRate.validity ≠ .lost →
       t.sju.damping = ⟨d, p.dBase, rate, retarder, angle, 1000 - d⟩) ∧
     (w.art.validity = .lost ∨ w.artRate.validity = .lost →
       t.sju.damping = { s.sju.damping with demand := 1000, joint := 0 })) ∧
    t.sju = { s.left.sju with damping := t.sju.damping, jointNum := s.sju.jointNum + 1, work := none } ∧
    t.pfu = { s.pfu with staged := { s.pfu.staged with joint := t.sju.damping.joint } } ∧
    t.sa = s.sa ∧ t.shc = s.shc ∧ t.dcu = s.dcu ∧ t.lvu = s.lvu ∧ t.kns = s.kns ∧ t.bdu = s.bdu ∧ t.cp = s.left.cp ∧
    t.pfs = s.pfs ∧ t.prm = s.prm ∧ t.loaded = s.loaded ∧ t.rst = s.rst ∧ t.pending = s.pending)

/-- STARVATION_TIMER_EXPIRY, DRIVER_DIAG_REPORT and DRIVER_DIAG_CLEARED. Model's choices in it: log entries 2, 22, 24
(spec/08 section 8.3, spec/09 section 9.3, spec/09 section 9.4). -/
def Obligations.StarvationAndDiagnosisTripTheChannelsThatSelectThem : Prop :=
  (∀ (s : State) (g : FrameGroup), s.rst.low = false → (s.pfu.group.get g).starve.isSome = true →
    ∃ t, exec (.starvationTimerExpiry g) s = .next t ∧ s.keepsImage t ∧
    (g ≠ .str ∨ (s.sju.state = t.sju.state ∧ s.pfu.chan.bridge.state = t.pfu.chan.bridge.state) ∨
        t.sju.state ≠ .faulted →
      t.pfu.group.get g = { s.pfu.group.get g with starve := none, starved := true } ∧
        t.reports .frameStarved g.num = true) ∧
    (∀ k : Chan, k.group = g → (s.pfu.chan.get k).state = .armed → (s.selects k).starved = true →
      t.pfu.chan.get k = (s.pfu.chan.get k).trip
        (if (s.selects k).vsup ∧ s.vsupLow then .vsupLow
          else if (s.selects k).diag ∧ ((s.pfu.chan.get k).overCurrent ∨ (s.pfu.chan.get k).openLoad) then .driverDiag
          else .frameStarved) ∧
      t.reports .channelTrip k.num = true ∧ t.attended .trip = true)) ∧
  (∀ (s : State) (k : Chan) (kind : DiagKind), s.rst.low = false →
    ∃ t, exec (.driverDiagReport k kind) s = .next t ∧ s.keepsImage t ∧
    (let c := s.pfu.chan.get k
     let seen := kind = .openLoad ∨ s.drives k = true
     (seen → c.state = .armed → (s.selects k).diag = true →
       t.pfu.chan.get k =
         ⟨.tripped, some (if (s.selects k).vsup ∧ s.vsupLow then .vsupLow else .driverDiag), min 255 (c.trips + 1),
           false, false, c.openLoad || decide (kind = .openLoad)⟩ ∧
       t.reports .channelTrip k.num = true ∧ t.attended .trip = true ∧ ∀ n : Fin 1000, t.driveAt k n = 0) ∧
     (c.state ≠ .armed →
       t.pfu.chan.get k = { c with
         overCurrent := c.overCurrent || (decide (kind = .overCurrent) && s.drives k)
         openLoad := c.openLoad || decide (kind = .openLoad) }))) ∧
  (∀ (s : State) (k : Chan), s.rst.low = false →
    exec (.driverDiagCleared k) s = .next (s.left.setChan k { s.pfu.chan.get k with openLoad := false }))

/-- NOP and the READ commands: taken on every port in every mode, answered with the state, and nothing changed. Model's
choices in it: log entries 25, 26, 52 (spec/01 section 1.8, spec/02 section 2.7, spec/05 section 5.5, spec/07
section 7.8, spec/08 section 8.7, spec/09 section 9.6, spec/10 section 10.4, spec/10 section 10.5, spec/10 section
10.6, spec/11 section 11.1, spec/11 section 11.3). -/
def Obligations.ReadCommandsAnswerAndChangeNothing : Prop :=
  (∀ (s : State) (p : PortId), s.hears p = true →
    (∃ t, exec (.nop p []) s = .next t ∧ s.onlyRead p t ∧ t.answered p 0x00#8 .done [] ∧
      ((s.cp.port.get p).silent = true → t.ended .portSilent p.num = true)) ∧
    (∃ t, exec (.readFaults p []) s = .next t ∧ s.onlyRead p t ∧
      t.answered p 0x04#8 .done (yesNo t.pfs.overflow ++ byte1 t.pfs.faults.length ++
        (t.pfs.faults.map fun e => byte1 e.kind.code ++ byte1 e.source ++ byte4 e.first ++ byte1 e.count ++
          byte1 (if e.active then 0 else 1)).flatten)) ∧
    (∃ t, exec (.readPermissions p []) s = .next t ∧ s.onlyRead p t ∧
      t.answered p 0x05#8 .done (byte2 (flags s.ciu.perms.members) ++ byte2 (flags s.ciu.results.members) ++
        byte2 (flags s.floors.members) ++ byte2 s.ciu.scratch.toNat ++
        (s.conds.map fun c => byte1 (flags [c.low, c.mtch, c.high, c.doubt])).flatten ++
        byte2 s.ciu.latches.toNat ++ byte3 (flags t.stateBits) ++ yesNo t.ciu.pass.isSome ++ yesNo t.ciu.again ++
        byte2 s.ciu.pubNum.toNat)) ∧
    (∃ t, exec (.readBrake p []) s = .next t ∧ s.onlyRead p t ∧
      t.answered p 0x06#8 .done ((Axle.all.map fun x =>
        byte2 (s.bdu.service.pressure.get x) ++ byte2 (s.bdu.intervention.pressure.get x) ++
        byte1 s.bdu.service.left ++ byte1 s.bdu.intervention.left ++
        byte2 (s.bdu.ratio.get x) ++ yesNo s.kns.freeze ++ byte2 (s.demand x) ++ byte2 (s.scaledDemand x) ++
        byte2 (s.shc.floor.get x) ++ byte2 (s.setpoint x) ++ yesNo (s.saturated x) ++
        byte2 (s.prm.brake.pMax.get x) ++
        byte2 (s.sa.image.brp.get x).value ++ byte1 (s.sa.image.brp.get x).validity.code ++
        byte2 (s.bdu.last.get x).error ++ byte2 (s.bdu.last.get x).inlet ++ byte2 (s.bdu.last.get x).exhaust ++
        yesNo (s.abandoned x) ++
        byte1 (flags [(s.bdu.cause.get x).brpLost, (s.bdu.cause.get x).inlet, (s.bdu.cause.get x).exhaust]) ++
        yesNo (s.backupEnergized x) ++ byte2 (timeLeft (s.bdu.deviation.get x)) ++
        yesNo (s.bdu.deviating.get x)).flatten ++
        byte2 s.bdu.compNum.toNat ++ yesNo s.loaded)) ∧
    (∃ t, exec (.readLevel p []) s = .next t ∧ s.onlyRead p t ∧
      (let corners := fun f : Corner → Int => (Corner.all.map fun i => byte2 (f i)).flatten
       let pulse := fun q : Pulse => byte2 q.width ++ byte2 q.delay
       let r := s.lvu.record
       t.answered p 0x07#8 .done (byte1 s.lvu.heightMode.code ++ corners s.lvu.target.get ++ corners s.rideTarget ++
        ((List.range 12).map fun e => byte1 (s.maskEntry e).toNat).flatten ++ yesNo s.loaded ++
        byte2 r.num.toNat ++ byte1 r.speed.code ++ byte1 r.actMask.toNat ++ byte2 r.deadband ++ byte2 r.limit ++
        corners r.error.get ++ corners r.demand.get ++ byte1 r.pauseSet.toNat ++ yesNo r.levelDrive ++
        (Corner.all.map fun i => pulse (r.fill.get i)).flatten ++
        (Corner.all.map fun i => pulse (r.vent.get i)).flatten))) ∧
    (∃ t, exec (.readSteer p []) s = .next t ∧ s.onlyRead p t ∧
      (let j := s.sju
       t.answered p 0x08#8 .done (byte1 j.state.code ++ byte1 (flags s.lockCauses.members) ++
        byte2 j.angle ++ byte2 j.target ++ byte2 j.gain ++
        byte2 s.sa.image.rst.value ++ byte1 s.sa.image.rst.validity.code ++ byte2 j.err ++ byte2 j.duty ++
        byte2 (timeLeft j.centring) ++ byte1 (timeLeft j.settle) ++ byte2 (timeLeft j.tracking) ++
        yesNo s.steerEnergized ++ yesNo s.steerEnergized ++
        byte2 j.damping.demand ++ byte2 j.damping.base ++ byte2 j.damping.rate ++ byte2 j.damping.retarder ++
        byte2 j.damping.angle ++ byte2 j.damping.joint ++ yesNo j.centringTimeout ++ yesNo j.trackingError ++
        byte2 j.steerNum.toNat ++ byte2 j.jointNum.toNat ++ yesNo s.loaded))) ∧
    (∃ t, exec (.readAttention p []) s = .next t ∧ s.onlyAnswered p t ∧ (t.cp.port.get p).attn = 0#8 ∧
      (t.status p)[2]?.map (·.getLsbD 0) = some false ∧
      t.answered p 0x03#8 .done [(s.cp.port.get p).attn])) ∧
  (∀ (s : State) (p : PortId) (g : Option FrameGroup), s.hears p = true →
    ∃ t, exec (.readStatus p (g.elim [] fun h => [BitVec.ofNat 8 h.num])) s = .next t ∧ s.onlyRead p t ∧
    (let status := byte1 (flags s.inhibitCauses.members) ++ byte1 s.pfs.cause.code ++
       (PortId.all.map fun q => yesNo (t.cp.port.get q).silent ++ byte2 (timeLeft (t.cp.port.get q).silence)).flatten ++
       yesNo s.cp.retarder ++ yesNo s.cp.engaged ++ byte1 (timeLeft s.cp.driveLeft) ++
       byte2 s.sa.portSpeed ++ yesNo s.sa.portSpeedLeft.isSome
     let value := fun (v : Values) (k : Chan) => match k with
       | .inlet x => byte2 (v.inlet.get x)
       | .exhaust x => byte2 (v.exhaust.get x)
       | .joint => byte2 v.joint
       | .fill i => byte2 (v.fill.get i).delay ++ byte2 (v.fill.get i).width
       | .vent i => byte2 (v.vent.get i).delay ++ byte2 (v.vent.get i).width
       | .bridge => byte2 v.bridge
     let channel := fun k : Chan =>
       let c := s.pfu.chan.get k
       byte1 c.state.code ++ value s.pfu.staged k ++ value s.pfu.active k ++
         (if k.group = .lvl then yesNo s.pfu.owed else []) ++ byte1 (flags (s.selects k).members) ++
         byte1 (flags (s.assertedMembers k)) ++ byte1 (c.cause.elim 255 TripCause.code) ++ byte1 c.trips
     let group := fun h : FrameGroup =>
       let r := s.pfu.group.get h
       yesNo r.commit ++ byte2 r.boundary.toNat ++ yesNo r.starved ++ byte2 (timeLeft r.starve) ++
         ((Chan.all.filter fun k => decide (k.group = h)).map channel).flatten ++
         (if h = .str then byte1 s.prm.frames.deadTime ++ byte2 s.bridgeMagnitude else []) ++ yesNo s.loaded
     t.answered p 0x01#8 .done (status ++ g.elim [] group))) ∧
  (∀ (s : State) (p : PortId) (first count : Byte), s.hears p = true →
    ∃ t, exec (.readImage p [first, count]) s = .next t ∧ s.onlyRead p t ∧
    (let f := min first.toNat 27
     let n := min (min 6 (max 1 count.toNat)) (28 - f)
     t.answered p 0x02#8 (if f = first.toNat ∧ n = count.toNat then .done else .clamped)
       ((List.range n).map fun k => byte1 (f + k) ++ byte2 (s.sa.image.byId (f + k)).value ++
         byte1 (s.sa.image.byId (f + k)).validity.code ++ byte2 (s.sa.image.byId (f + k)).age ++
         byte1 (s.sa.image.byId (f + k)).source.code ++ byte2 (s.sa.image.byId (f + k)).last).flatten)) ∧
  (∀ (s : State) (p : PortId) (sec o1 o0 count : Byte), s.hears p = true →
    ∃ t, exec (.profileRead p [sec, o1, o0, count]) s = .next t ∧ s.onlyRead p t ∧
    (let offset := o1.toNat * 256 + o0.toNat
     let lengths := [210, 128, 386, 6, 126, 34, 54, 162, 0, 12, 12]
     let len := lengths.getD sec.toNat 0
     let base := (lengths.take sec.toNat).sum
     let n := min (min 200 (max 1 count.toNat)) (len - offset)
     (len ≤ offset → t.answered p 0x22#8 .refusedRange []) ∧
     (offset < len → t.answered p 0x22#8 (if n = count.toNat then .done else .clamped)
       ([sec] ++ [o1, o0] ++ byte1 n ++ (List.range n).map (fun k => s.pfs.profile.read (base + offset + k)) ++
         byte2 (profileCheck s.pfs.profile).toNat ++ yesNo s.pfs.confirmF ++ yesNo s.pfs.confirmB ++
         byte2 s.pfs.recorded.toNat))))

/-- TRANSACTION_START, FRAME_ERROR, UNKNOWN_COMMAND, and the first failing check of a command decides its refusal.
Model's choices in it: log entries 22, 26, 27, 34, 53 (spec/10 section 10.1, spec/10 section 10.2, spec/10 section
10.3). -/
def Obligations.FramesAreCheckedInTheOrderOfTheRule : Prop :=
  (∀ (s : State) (p : PortId), s.rst.low = false → ∃ t, exec (.transactionStart p) s = .next t ∧
    (let out := ((s.cp.port.get p).reply.getD ⟨s.status p, 0#8, .done, []⟩).bytes
     t = { s with
       rst := { s.rst with cut := s.rst.cut.set p false }
       cp := { s.cp with port := s.cp.port.set p { s.cp.port.get p with shift := some out } } } ∧
     ∀ k : Nat, t.dataOut p k = some (if k < out.length then out.getD k 0#8 else 0#8))) ∧
  (∀ (s : State) (p : PortId) (k : Nat), (s.cp.port.get p).shift = none → s.dataOut p k = none) ∧
  (∀ (s : State) (p : PortId) (rx : List Byte), s.hears p = true → malformed rx = true →
    exec (.frameError p rx) s = .next (s.withCp { s.cp with
      port := s.cp.port.set p { s.cp.port.get p with
        shift := none
        reply := match rx with
          | [] => (s.cp.port.get p).reply
          | first :: _ => some ⟨s.status p, first, .frameError, []⟩ } })) ∧
  (∀ rx : List Byte, malformed rx = true ↔ ∀ cmd payload, frameOf rx ≠ .valid cmd payload) ∧
  frameOf [] = .nothing ∧ (∀ b : Byte, frameOf [b] = .bad b) ∧
  (∀ (cmd len : Byte) (rest : List Byte), 48 < len.toNat ∨ (cmd :: len :: rest).length < len.toNat + 3 →
    frameOf (cmd :: len :: rest) = .bad cmd) ∧
  crc8 [] = 0#8 ∧
  (∀ (bs : List Byte) (b : Byte), crc8 (bs ++ [b]) =
    (List.range 8).foldl (fun c _ => if c.msb then (c <<< 1) ^^^ 0x4D#8 else c <<< 1) (crc8 bs ^^^ b)) ∧
  (∀ (cmd : Byte) (payload extra : List Byte) (chk : Byte), payload.length ≤ 48 →
    (frameOf (cmd :: BitVec.ofNat 8 payload.length :: (payload ++ chk :: extra)) =
      if chk = crc8 (cmd :: BitVec.ofNat 8 payload.length :: payload) then .valid cmd payload else .bad cmd)) ∧
  (∀ (s : State) (p : PortId) (cmd : Byte) (payload : List Byte), s.hears p = true → payload.length ≤ 48 →
    (0x08 < cmd.toNat ∧ cmd.toNat < 0x10) ∨ (0x1A < cmd.toNat ∧ cmd.toNat < 0x20) ∨ 0x22 < cmd.toNat →
    ∃ t, exec (.unknownCommand p cmd payload) s = .next t ∧ s.onlyRead p t ∧
      t.answered p cmd .unknownCommand []) ∧
  (∀ (i : Instr) (p : PortId) (code : Byte) (payload : List Byte) (s : State), s.hears p = true →
    frameOfCommand i = some (p, code, payload) →
    (48 < payload.length → exec i s = .next (s.withCp { s.cp with
      port := s.cp.port.set p { s.cp.port.get p with
        shift := none, reply := some ⟨s.status p, code, .frameError, []⟩ } })) ∧
    (let all := [Mode.start, .config, .run, .safe]
     let ports := [PortId.f, .r, .b]
     let rows : List (Nat × Nat × Nat × List PortId × List Mode) :=
       [(0x00, 0, 0, ports, all), (0x01, 0, 1, ports, all), (0x02, 2, 2, ports, all), (0x03, 0, 0, ports, all),
        (0x04, 0, 0, ports, all), (0x05, 0, 0, ports, all), (0x06, 0, 0, ports, all), (0x07, 0, 0, ports, all),
        (0x08, 0, 0, ports, all), (0x10, 8, 8, [.f, .r], [.run]), (0x11, 1, 1, [.f, .b], [.run]),
        (0x12, 1, 1, [.f], [.run]), (0x13, 2, 2, [.f, .b], [.run]), (0x14, 2, 2, [.b], [.run]),
        (0x15, 3, 3, [.r], [.run]), (0x16, 3, 3, [.f, .b], [.run]), (0x17, 4, 4, ports, [.run]),
        (0x18, 2, 2, [.f, .b], [.run]), (0x19, 2, 2, [.f, .b], [.run]),
        (0x1A, 0, 0, [.f, .r], [.start, .config, .run]), (0x20, 3, 48, [.f, .b], [.config]),
        (0x21, 2, 2, [.f, .b], [.config]), (0x22, 4, 4, ports, all)]
     let op := (payload.getD 0 0#8).toNat
     let kind := (payload.getD 1 0#8).toNat
     ∀ row ∈ rows, row.1 = code.toNat → payload.length ≤ 48 → ∃ t, exec i s = .next t ∧
       (let gives := fun r => s.onlyRead p t ∧ t.answered p code r []
        let bad := payload.length < row.2.1 ∨ row.2.2.1 < payload.length
        (bad → gives .refusedRange) ∧
        (¬ bad → p ∉ row.2.2.2.1 → gives .refusedAuthority) ∧
        (¬ bad → p ∈ row.2.2.2.1 → s.pfs.mode ∉ row.2.2.2.2 → gives .refusedMode) ∧
        (¬ bad → p ∈ row.2.2.2.1 → s.pfs.mode ∈ row.2.2.2.2 →
          (code = 0x11#8 ∨ code = 0x12#8 ∨ code = 0x14#8 → 1 < op → gives .refusedRange) ∧
          (code = 0x13#8 → 2 < op ∨ (op = 0 ∧ 1 < kind) → gives .refusedRange) ∧
          (code = 0x17#8 → 2 < op → gives .refusedRange) ∧
          (code = 0x01#8 → payload ≠ [] → 2 < op → gives .refusedRange) ∧
          (code = 0x11#8 → op = 1 → p ≠ .f → gives .refusedAuthority) ∧
          (code = 0x13#8 → (op = 0 ∧ kind ≤ 1) ∨ op = 1 → p ≠ .b → gives .refusedAuthority) ∧
          (code = 0x17#8 → (op = 0 ∧ p ≠ .f) ∨ (op = 1 ∧ p = .r) ∨ (op = 2 ∧ p = .b) → gives .refusedAuthority)))))

/-- DRIVE_STATUS hands over the drive indications and the speed; SILENCE_TIMER_EXPIRY makes the port silent. Model's
choices in it: log entries 2, 10, 12, 22, 25, 39, 54 (spec/01 section 1.5, spec/02 section 2.3, spec/10 section
10.4, spec/10 section 10.5, spec/03 section 3.2, spec/03 section 3.4). -/
def Obligations.DriveStatusAndSilenceOfAPort : Prop :=
  (∀ (s : State) (ind hi lo : Byte), s.hears .r = true → s.pfs.mode = .run →
    ∃ t, exec (.driveStatus .r [ind, hi, lo]) s = .next t ∧
    (let speed := hi.toNat * 256 + lo.toNat
     let valid := ind.getLsbD 2
     t.cp.retarder = ind.getLsbD 0 ∧ t.cp.engaged = ind.getLsbD 1 ∧ t.cp.driveLeft = some 100 ∧
     t.sa.portSpeed = (if valid then min 15000 speed else s.sa.portSpeed) ∧
     t.sa.portSpeedLeft = (if valid then some 100 else none) ∧
     t.answered .r 0x15#8 (if valid ∧ 15000 < speed then .clamped else .done)
       (byte2 t.sa.portSpeed ++ yesNo valid ++ yesNo (ind.getLsbD 0) ++ yesNo (ind.getLsbD 1)) ∧
     ((Wheel.all.filter fun w => (s.sa.image.wsp.get w).usable).length < 2 → t.sa.image.vspd =
       if valid then ⟨min 15000 speed, .substituted, 0, .port, s.sa.image.vspd.last, none⟩
       else { s.sa.image.vspd with validity := .lost }) ∧
     (2 ≤ (Wheel.all.filter fun w => (s.sa.image.wsp.get w).usable).length →
       t.sa.image.vspd = vspdOf s.sa ∧ t.sa.image.vspd.validity = .fresh ∧ t.sa.image.vspd.source = .primary ∧
         (s.sa.image.vspd = vspdOf s.sa → t.sa.image.vspd = s.sa.image.vspd))) ∧
    s.lossReported t 21 s.sa.image.vspd t.sa.image.vspd ∧ s.holdFollows t ∧
    t.sa = { s.sa with
      portSpeed := t.sa.portSpeed, portSpeedLeft := t.sa.portSpeedLeft,
      image := { s.sa.image with vspd := t.sa.image.vspd } } ∧
    t.prm = s.prm ∧ t.loaded = s.loaded ∧ t.rst = s.rst ∧ t.pending = s.pending ∧ t.pfs.rest = s.pfs.rest ∧
    ∀ q : PortId, q ≠ .r → (t.cp.port.get q).reply = (s.cp.port.get q).reply ∧
      (t.cp.port.get q).shift = (s.cp.port.get q).shift ∧
      (t.cp.port.get q).silence = (s.cp.port.get q).silence ∧ (t.cp.port.get q).silent = (s.cp.port.get q).silent) ∧
  (∀ (s : State) (p : PortId), s.rst.low = false → (s.cp.port.get p).silence = none →
    exec (.silenceTimerExpiry p) s = .next s.left) ∧
  (∀ (s : State) (p : PortId), s.rst.low = false → (s.cp.port.get p).silence.isSome = true →
    ∃ t, exec (.silenceTimerExpiry p) s = .next t ∧ (t.cp.port.get p).silent = true ∧
    (t.cp.port.get p).silence = none ∧ (t.cp.port.get p).reply = (s.cp.port.get p).reply ∧
    (t.cp.port.get p).shift = (s.cp.port.get p).shift ∧ t.reports .portSilent p.num = true ∧ t.sa = s.sa ∧ t.prm = s.prm ∧ t.loaded = s.loaded ∧ t.rst = s.rst ∧
    t.pending = s.pending ∧ t.pfs.rest = s.pfs.rest ∧ t.cp.retarder = s.cp.retarder ∧ t.cp.engaged = s.cp.engaged ∧
    t.cp.driveLeft = s.cp.driveLeft ∧
    ∀ q : PortId, q ≠ p → (t.cp.port.get q).reply = (s.cp.port.get q).reply ∧
      (t.cp.port.get q).shift = (s.cp.port.get q).shift ∧
      (t.cp.port.get q).silence = (s.cp.port.get q).silence ∧ (t.cp.port.get q).silent = (s.cp.port.get q).silent)

/-- PROFILE_WRITE stores its bytes and drops confirmations; PROFILE_CONFIRM by both ports enters RUN. Model's choices in
it: log entries 22, 23, 26, 43, 59 (spec/11 section 11.1, spec/11 section 11.2, spec/03 section 3.2, spec/05 section
5.3, spec/09 section 9.4). -/
def Obligations.ProfileIsWrittenConfirmedAndRun : Prop :=
  (∀ (s : State) (p : PortId) (sec o1 o0 : Byte) (ds : List Byte), s.hears p = true → s.pfs.mode = .config →
    (p = .f ∨ p = .b) → s.profileSound = true → ds.length ≤ 45 →
    ∃ t, exec (.profileWrite p ([sec, o1, o0] ++ ds)) s = .next t ∧
    (let offset := o1.toNat * 256 + o0.toNat
     let lengths := [210, 128, 386, 6, 126, 34, 54, 162, 0, 12, 12]
     let len := lengths.getD sec.toNat 0
     let base := (lengths.take sec.toNat).sum + offset
     (len = 0 ∨ len < offset + ds.length → s.onlyRead p t ∧ t.answered p 0x20#8 .refusedRange []) ∧
     (0 < len → offset + ds.length ≤ len →
       s.unmoved t ∧ s.prm = t.prm ∧ s.loaded = t.loaded ∧ s.rst = t.rst ∧ s.pending = t.pending ∧
       t.pfs = { (hear p s).pfs with profile := t.pfs.profile, confirmF := false, confirmB := false } ∧
       (∀ a : Nat, t.pfs.profile.read a =
         if base ≤ a ∧ a < base + ds.length then ds.getD (a - base) 0#8 else s.pfs.profile.read a) ∧
       t.answered p 0x20#8 .done ([sec, o1, o0] ++ byte1 ds.length ++
         byte2 (profileCheck t.pfs.profile).toNat ++ yesNo false ++ yesNo false)))) ∧
  (∀ (s : State) (p : PortId) (hi lo : Byte), s.hears p = true → s.pfs.mode = .config → (p = .f ∨ p = .b) →
    ∃ t, exec (.profileConfirm p [hi, lo]) s = .next t ∧
    (let m := s.pfs.profile
     let right := hi.toNat * 256 + lo.toNat = (profileCheck m).toNat
     let both := (p = .f ∧ s.pfs.confirmB = true) ∨ (p = .b ∧ s.pfs.confirmF = true) ∨
       (s.pfs.confirmF = true ∧ s.pfs.confirmB = true)
     (¬ right → s.onlyRead p t ∧ t.answered p 0x21#8 .refusedRange []) ∧
     (right → ¬ both → s.unmoved t ∧ t.prm = s.prm ∧ t.answered p 0x21#8 .done [] ∧
       t.pfs = { (hear p s).pfs with
         confirmF := s.pfs.confirmF || decide (p = .f), confirmB := s.pfs.confirmB || decide (p = .b) }) ∧
     (right → both → ∀ sec, failingSection m = some sec →
       s.unmoved t ∧ t.prm = s.prm ∧ t.answered p 0x21#8 .refusedRange (byte1 sec) ∧
       t.pfs = { (hear p s).pfs with confirmF := false, confirmB := false }) ∧
     (right → both → failingSection m = none →
       t.answered p 0x21#8 .done [] ∧ t.prm = readParams m ∧ t.loaded = true ∧ t.rst = s.rst ∧ t.pending = s.pending ∧
       t.pfs.rest = { s.pfs with
         mode := .run, confirmF := true, confirmB := true, recorded := profileCheck m,
         recordedSections := sectionChecks m, integrity := some 1000, faults := [], overflow := false } ∧
       t.attended .modeChanged = true ∧ t.sa.hgtWin = .fill [] ∧ t.sa.prsWin = .fill [] ∧
       t.sa = { s.sa with
         hgtWin := t.sa.hgtWin, prsWin := t.sa.prsWin, image := { s.sa.image with load := t.sa.image.load } } ∧
       t.lvu.levelSet = readMask m 0 ∧ t.lvu.raiseSet = readMask m 1 ∧ t.lvu.driveSet = readMask m 2 ∧
       t.lvu.kneelSet = s.lvu.kneelSet &&& readMask m 0 ∧
       (∀ k ∈ Chan.all, (s.pfu.chan.get k).state = .idle →
         let c := s.pfu.chan.get k
         let sel := (readFrames m).sel.get k
         let low := sel.vsup = true ∧ (s.sa.image.vsup.validity = .lost ∨
           s.sa.image.vsup.value < (readSignals m).vsupLow)
         let diag := sel.diag = true ∧ (c.overCurrent = true ∨ c.openLoad = true)
         let starved := sel.starved = true ∧ (s.pfu.group.get k.group).starved = true
         let published := fun i : Nat => decide (88 ≤ i)
         let named := (sel.index.any fun i => published i && s.source i) = true
         let armed := t.pfu.chan.get k = { c with state := .armed }
         let trips := fun cause => t.pfu.chan.get k = ⟨.tripped, some cause, min 255 (c.trips + 1), false, false,
           c.openLoad⟩ ∧ t.reports .channelTrip k.num = true ∧ t.attended .trip = true
         (low → trips .vsupLow) ∧ (¬ low → diag → trips .driverDiag) ∧ (¬ low → ¬ diag → starved → trips .frameStarved) ∧
         (¬ low → ¬ diag → ¬ starved → (named → trips .sourceIndex) ∧
           (¬ named → sel.index.all published = true → armed) ∧ (armed ∨ trips .sourceIndex))) ∧
       t.ciu.pass.isSome = true ∧
       (s.shc.state = .released → s.sa.image.vspd.validity ≠ .lost →
         s.sa.image.vspd.value ≤ (readHold m).entrySpeed → t.shc.state = .applying) ∧
       (s.shc.state = .released → s.sa.image.vspd.validity = .lost ∨
         (readHold m).entrySpeed < s.sa.image.vspd.value → t.shc = { s.shc with pendingApply := true }))))

/-- ENTER_SAFE, START_UP_TIMER_EXPIRY and INTEGRITY_TIMER_EXPIRY: SAFE entry block by block, and the end of START.
Model's choices in it: log entries 2, 14, 15, 17, 22, 35, 37, 39 (spec/11 introduction, spec/11 section 11.2,
spec/03 section 3.6, spec/07 section 7.9, spec/08 section 8.8, spec/09 section 9.4). -/
def Obligations.SafeEntryStartUpAndIntegrity : Prop :=
  (let safe := fun (s t : State) =>
     t.pfs.mode = .safe ∧ t.pfs.integrity = none ∧ t.pfs.profile = s.pfs.profile ∧ t.shc.state = .released ∧
     t.shc.floor = ⟨0, 0, 0⟩ ∧ t.shc.pendingApply = false ∧ t.shc.creep = false ∧ t.shc.applying = none ∧
     t.shc.quiet = none ∧ t.bdu.service = ⟨⟨0, 0, 0⟩, 0⟩ ∧ t.bdu.intervention = ⟨⟨0, 0, 0⟩, 0⟩ ∧
     t.bdu.deviation = ⟨none, none, none⟩ ∧ t.bdu.deviating = ⟨false, false, false⟩ ∧
     (∀ k ∈ Chan.all, (t.pfu.chan.get k).state = .tripped ∧ (t.pfu.chan.get k).cause = some .safe ∧
       (t.pfu.chan.get k).driving = ((s.pfu.chan.get k).driving && decide ((s.pfu.chan.get k).state = .tripped)) ∧
       (t.pfu.chan.get k).trips = if (s.pfu.chan.get k).state = .tripped then (s.pfu.chan.get k).trips
         else min 255 ((s.pfu.chan.get k).trips + 1)) ∧
     t.sju.state = .faulted ∧ (s.sju.state ≠ .faulted → t.sju.angle = 0 ∧ t.pfu.staged.bridge = 0) ∧
     t.steerEnergized = false ∧ t.kns.lowering = none ∧ t.kns.raising = none ∧ t.kns.pauseSet = 0#6 ∧
     (∀ d ∈ Door.all, t.releaseOutput d = false) ∧ (∀ x ∈ Axle.all, t.backupEnergized x = false) ∧ t.sa = s.sa ∧
     t.prm = s.prm ∧ t.attended .modeChanged = true ∧ t.attended .trip = true ∧
     t.loaded = s.loaded ∧ t.rst = s.rst ∧ t.pending = s.pending ∧
     t.pfs.rest = { s.pfs with mode := .safe, integrity := none, faults := [], overflow := false } ∧
     (∀ e ∈ t.pfs.faults, e.kind = .channelTrip → e ∈ s.pfs.faults) ∧
     (s.shc.creep = true → t.ended .holdCreep 21 = true) ∧
     (∀ x ∈ Axle.all, s.bdu.deviating.get x = true → t.ended .brakeDeviation x.num = true) ∧
     t.shc = { s.shc with
       state := .released, pendingApply := false, floor := ⟨0, 0, 0⟩, creep := false, quiet := none, applying := none,
       notReached := ⟨false, false, false⟩ } ∧
     t.bdu = { s.bdu with
       service := ⟨⟨0, 0, 0⟩, 0⟩, intervention := ⟨⟨0, 0, 0⟩, 0⟩, deviation := ⟨none, none, none⟩,
       deviating := ⟨false, false, false⟩, cause := t.bdu.cause } ∧
     t.sju = (if s.sju.state = .faulted then s.sju else { s.sju with
       state := .faulted, angle := 0, target := 0, centring := none, settle := none, tracking := none }) ∧
     t.pfu = { s.pfu with
       chan := t.pfu.chan, staged := { s.pfu.staged with bridge := t.pfu.staged.bridge }
       group := if s.sju.state = .faulted then s.pfu.group
         else s.pfu.group.set .str { s.pfu.group.str with commit := true, starve := some 6, starved := false } } ∧
     t.kns = { s.kns with state := t.kns.state, lowering := none, raising := none, pauseSet := 0#6 } ∧
     t.lvu = { s.lvu with target := t.lvu.target, heightMode := t.lvu.heightMode } ∧
     (s.floorsSound = true → s.consumersSound = true →
       t.ciu.perms = { s.ciu.perms with door := ⟨false, false, false, false⟩, kneel := false } ∧
       (t.ciu.perms ≠ s.ciu.perms → t.attended .permissionChanged = true) ∧
       t.ciu.results = s.ciu.results ∧ t.ciu.scratch = s.ciu.scratch ∧ t.ciu.latches = s.ciu.latches ∧
       t.kns.state = (if s.kns.state = .lowering then .paused else s.kns.state) ∧
       t.lvu.heightMode = s.lvu.heightMode ∧
       (∀ i : Corner, t.lvu.target.get i =
         if s.kns.state = .lowering ∧ hasCorner s.lvu.kneelSet i then
           max (-3000) (min 3000 (if (s.sa.image.hgt.get i).validity ≠ .lost then (s.sa.image.hgt.get i).value
             else s.lvu.target.get i))
         else s.lvu.target.get i) ∧
       (∀ d : Door, t.dcu.get d =
         let r := s.dcu.get d
         if r.phase = .released then { r with
           phase := .shut, phaseTimer := none, proofTimer := none, forced := false, proofTimeout := false,
           moving := false }
         else if (r.phase = .opened ∨ r.phase = .obstructed) ∧ r.closed = .made ∧ r.proofTimer = none then
           { r with proofTimer := some 200 }
         else r))
   (∀ (s : State) (p : PortId), s.hears p = true → s.pfs.mode ≠ .safe → (p = .f ∨ p = .r) →
     ∃ t, exec (.enterSafe p []) s = .next t ∧ safe s t ∧ t.answered p 0x1A#8 .done []) ∧
   (∀ (s : State), s.rst.low = false → s.pfs.integrity.isSome = true → s.pfs.mode = .run →
     (profileCheck s.pfs.profile = s.pfs.recorded →
       exec .integrityTimerExpiry s = .next (s.left.withPfs { s.pfs with integrity := some 1000 })) ∧
     (profileCheck s.pfs.profile ≠ s.pfs.recorded →
       ∃ t, exec .integrityTimerExpiry s = .next t ∧ safe s t ∧
         t.reports .profileIntegrity s.brokenSection = true))) ∧
  (∀ (s : State), s.rst.low = false → s.pfs.mode ≠ .run →
    exec .integrityTimerExpiry s = .next (s.left.withPfs { s.pfs with integrity := none })) ∧
  (∀ (s : State), s.rst.low = false → s.pfs.startUp.isSome = true → s.pfs.mode = .start →
    ∃ t, exec .startUpTimerExpiry s = .next t ∧ t.sa = s.sa ∧ t.prm = s.prm ∧ t.loaded = s.loaded ∧
    t.pfs.rest = { s.pfs with mode := .config, startUp := none, faults := [], overflow := false } ∧
    t.attended .modeChanged = true ∧
    (∀ id : Fin 28, (s.sa.image.byId id).validity = .lost → t.reports .sensorLost id = true) ∧
    (∀ d : Door, (s.dcu.get d).phase ≠ .released → (t.dcu.get d).phase = (s.dcu.get d).phase))

/-- Raising a fault and ending its condition: the four cases of the fault list, FAULT_ADDED and FAULT_PRESENT (spec/11
section 11.3). -/
def Obligations.FaultsAreRaisedAndEndedAsTheListAllows : Prop :=
  (∀ (s : State) (kind : FaultKind) (source : Nat),
    let es := s.pfs.faults
    let t := raiseFault kind source s
    let mine := fun e : FaultEntry => e.kind = kind ∧ e.source = source
    let added := fun k : List FaultEntry =>
      t.pfs = { s.pfs with faults := k ++ [⟨kind, source, s.pfs.timeMs, 1, true⟩] } ∧ t.attended .faultAdded = true
    (∀ pre e post, es = pre ++ e :: post → mine e → (∀ f ∈ pre ++ post, ¬ mine f) →
      t.pfs = { s.pfs with
        faults := pre ++ { e with count := min 255 (e.count + 1), active := true } :: post } ∧
      (e.active = false → t.attended .faultAdded = true) ∧ (e.active = true → t.cp = s.cp)) ∧
    ((∀ e ∈ es, ¬ mine e) → es.length < 24 → added es) ∧
    ((∀ e ∈ es, ¬ mine e) → 24 ≤ es.length → ∀ pre e post, es = pre ++ e :: post → e.active = false →
      (∀ f ∈ pre, f.active = true) → added (pre ++ post)) ∧
    ((∀ e ∈ es, ¬ mine e) → 24 ≤ es.length → (∀ e ∈ es, e.active = true) →
      t = s.withPfs { s.pfs with overflow := true }) ∧
    (let u := endFault kind source s
     u.pfs.faults.length = es.length ∧ u.ended kind source = true ∧
     ((∀ e ∈ es, ¬ mine e) → u = s) ∧
     (∀ pre e post, es = pre ++ e :: post → (mine e → (∀ f ∈ pre ++ post, ¬ mine f) →
       u = s.withPfs { s.pfs with faults := pre ++ { e with active := false } :: post })))) ∧
  (∀ (s : State) (kind : FaultKind) (source : Nat),
    (endFault kind source (raiseFault kind source s)).ended kind source = true ∧
    (raiseFault kind source (endFault kind source s)).reports kind source = true) ∧
  (∀ (s : State), (s.faultPresent = true ↔ ∃ e ∈ s.pfs.faults, e.active = true) ∧
    (∀ p : PortId, ∃ b : Byte, (s.status p)[2]? = some b ∧ b.getLsbD 1 = s.faultPresent)) ∧
  (∀ (s0 s : State) (n : Nat), ∀ t ∈ [finishWith n s0 s, settleRequests s0 s, requestChanged s0 s],
    s0.faultPresent ≠ t.faultPresent →
    t.ciu.pass.isSome = true ∧ (s.ciu.pass.isSome = true → t.ciu.again = true))
end

