-- ==== Sys2Proof/Laws/State.lean ====
section
/-! SUPPORT. Replacing one block of the state: one lemma per block and replacement. -/

namespace Sys2Proof.Machine

@[simp] theorem State.withSa_sa (s : State) (x : Acquisition) :
    (s.withSa x).sa = x := rfl
@[simp] theorem State.withSa_ciu (s : State) (x : Acquisition) :
    (s.withSa x).ciu = s.ciu := rfl
@[simp] theorem State.withSa_shc (s : State) (x : Acquisition) :
    (s.withSa x).shc = s.shc := rfl
@[simp] theorem State.withSa_dcu (s : State) (x : Acquisition) :
    (s.withSa x).dcu = s.dcu := rfl
@[simp] theorem State.withSa_lvu (s : State) (x : Acquisition) :
    (s.withSa x).lvu = s.lvu := rfl
@[simp] theorem State.withSa_kns (s : State) (x : Acquisition) :
    (s.withSa x).kns = s.kns := rfl
@[simp] theorem State.withSa_bdu (s : State) (x : Acquisition) :
    (s.withSa x).bdu = s.bdu := rfl
@[simp] theorem State.withSa_sju (s : State) (x : Acquisition) :
    (s.withSa x).sju = s.sju := rfl
@[simp] theorem State.withSa_pfu (s : State) (x : Acquisition) :
    (s.withSa x).pfu = s.pfu := rfl
@[simp] theorem State.withSa_cp (s : State) (x : Acquisition) :
    (s.withSa x).cp = s.cp := rfl
@[simp] theorem State.withSa_pfs (s : State) (x : Acquisition) :
    (s.withSa x).pfs = s.pfs := rfl
@[simp] theorem State.withSa_prm (s : State) (x : Acquisition) :
    (s.withSa x).prm = s.prm := rfl
@[simp] theorem State.withSa_loaded (s : State) (x : Acquisition) :
    (s.withSa x).loaded = s.loaded := rfl
@[simp] theorem State.withSa_rst (s : State) (x : Acquisition) :
    (s.withSa x).rst = s.rst := rfl
@[simp] theorem State.withSa_pending (s : State) (x : Acquisition) :
    (s.withSa x).pending = s.pending := rfl

@[simp] theorem State.withCiu_sa (s : State) (x : Interlock) :
    (s.withCiu x).sa = s.sa := rfl
@[simp] theorem State.withCiu_ciu (s : State) (x : Interlock) :
    (s.withCiu x).ciu = x := rfl
@[simp] theorem State.withCiu_shc (s : State) (x : Interlock) :
    (s.withCiu x).shc = s.shc := rfl
@[simp] theorem State.withCiu_dcu (s : State) (x : Interlock) :
    (s.withCiu x).dcu = s.dcu := rfl
@[simp] theorem State.withCiu_lvu (s : State) (x : Interlock) :
    (s.withCiu x).lvu = s.lvu := rfl
@[simp] theorem State.withCiu_kns (s : State) (x : Interlock) :
    (s.withCiu x).kns = s.kns := rfl
@[simp] theorem State.withCiu_bdu (s : State) (x : Interlock) :
    (s.withCiu x).bdu = s.bdu := rfl
@[simp] theorem State.withCiu_sju (s : State) (x : Interlock) :
    (s.withCiu x).sju = s.sju := rfl
@[simp] theorem State.withCiu_pfu (s : State) (x : Interlock) :
    (s.withCiu x).pfu = s.pfu := rfl
@[simp] theorem State.withCiu_cp (s : State) (x : Interlock) :
    (s.withCiu x).cp = s.cp := rfl
@[simp] theorem State.withCiu_pfs (s : State) (x : Interlock) :
    (s.withCiu x).pfs = s.pfs := rfl
@[simp] theorem State.withCiu_prm (s : State) (x : Interlock) :
    (s.withCiu x).prm = s.prm := rfl
@[simp] theorem State.withCiu_loaded (s : State) (x : Interlock) :
    (s.withCiu x).loaded = s.loaded := rfl
@[simp] theorem State.withCiu_rst (s : State) (x : Interlock) :
    (s.withCiu x).rst = s.rst := rfl
@[simp] theorem State.withCiu_pending (s : State) (x : Interlock) :
    (s.withCiu x).pending = s.pending := rfl

@[simp] theorem State.withShc_sa (s : State) (x : Hold) :
    (s.withShc x).sa = s.sa := rfl
@[simp] theorem State.withShc_ciu (s : State) (x : Hold) :
    (s.withShc x).ciu = s.ciu := rfl
@[simp] theorem State.withShc_shc (s : State) (x : Hold) :
    (s.withShc x).shc = x := rfl
@[simp] theorem State.withShc_dcu (s : State) (x : Hold) :
    (s.withShc x).dcu = s.dcu := rfl
@[simp] theorem State.withShc_lvu (s : State) (x : Hold) :
    (s.withShc x).lvu = s.lvu := rfl
@[simp] theorem State.withShc_kns (s : State) (x : Hold) :
    (s.withShc x).kns = s.kns := rfl
@[simp] theorem State.withShc_bdu (s : State) (x : Hold) :
    (s.withShc x).bdu = s.bdu := rfl
@[simp] theorem State.withShc_sju (s : State) (x : Hold) :
    (s.withShc x).sju = s.sju := rfl
@[simp] theorem State.withShc_pfu (s : State) (x : Hold) :
    (s.withShc x).pfu = s.pfu := rfl
@[simp] theorem State.withShc_cp (s : State) (x : Hold) :
    (s.withShc x).cp = s.cp := rfl
@[simp] theorem State.withShc_pfs (s : State) (x : Hold) :
    (s.withShc x).pfs = s.pfs := rfl
@[simp] theorem State.withShc_prm (s : State) (x : Hold) :
    (s.withShc x).prm = s.prm := rfl
@[simp] theorem State.withShc_loaded (s : State) (x : Hold) :
    (s.withShc x).loaded = s.loaded := rfl
@[simp] theorem State.withShc_rst (s : State) (x : Hold) :
    (s.withShc x).rst = s.rst := rfl
@[simp] theorem State.withShc_pending (s : State) (x : Hold) :
    (s.withShc x).pending = s.pending := rfl

@[simp] theorem State.withDcu_sa (s : State) (x : PerDoor DoorRec) :
    (s.withDcu x).sa = s.sa := rfl
@[simp] theorem State.withDcu_ciu (s : State) (x : PerDoor DoorRec) :
    (s.withDcu x).ciu = s.ciu := rfl
@[simp] theorem State.withDcu_shc (s : State) (x : PerDoor DoorRec) :
    (s.withDcu x).shc = s.shc := rfl
@[simp] theorem State.withDcu_dcu (s : State) (x : PerDoor DoorRec) :
    (s.withDcu x).dcu = x := rfl
@[simp] theorem State.withDcu_lvu (s : State) (x : PerDoor DoorRec) :
    (s.withDcu x).lvu = s.lvu := rfl
@[simp] theorem State.withDcu_kns (s : State) (x : PerDoor DoorRec) :
    (s.withDcu x).kns = s.kns := rfl
@[simp] theorem State.withDcu_bdu (s : State) (x : PerDoor DoorRec) :
    (s.withDcu x).bdu = s.bdu := rfl
@[simp] theorem State.withDcu_sju (s : State) (x : PerDoor DoorRec) :
    (s.withDcu x).sju = s.sju := rfl
@[simp] theorem State.withDcu_pfu (s : State) (x : PerDoor DoorRec) :
    (s.withDcu x).pfu = s.pfu := rfl
@[simp] theorem State.withDcu_cp (s : State) (x : PerDoor DoorRec) :
    (s.withDcu x).cp = s.cp := rfl
@[simp] theorem State.withDcu_pfs (s : State) (x : PerDoor DoorRec) :
    (s.withDcu x).pfs = s.pfs := rfl
@[simp] theorem State.withDcu_prm (s : State) (x : PerDoor DoorRec) :
    (s.withDcu x).prm = s.prm := rfl
@[simp] theorem State.withDcu_loaded (s : State) (x : PerDoor DoorRec) :
    (s.withDcu x).loaded = s.loaded := rfl
@[simp] theorem State.withDcu_rst (s : State) (x : PerDoor DoorRec) :
    (s.withDcu x).rst = s.rst := rfl
@[simp] theorem State.withDcu_pending (s : State) (x : PerDoor DoorRec) :
    (s.withDcu x).pending = s.pending := rfl

@[simp] theorem State.withLvu_sa (s : State) (x : Levelling) :
    (s.withLvu x).sa = s.sa := rfl
@[simp] theorem State.withLvu_ciu (s : State) (x : Levelling) :
    (s.withLvu x).ciu = s.ciu := rfl
@[simp] theorem State.withLvu_shc (s : State) (x : Levelling) :
    (s.withLvu x).shc = s.shc := rfl
@[simp] theorem State.withLvu_dcu (s : State) (x : Levelling) :
    (s.withLvu x).dcu = s.dcu := rfl
@[simp] theorem State.withLvu_lvu (s : State) (x : Levelling) :
    (s.withLvu x).lvu = x := rfl
@[simp] theorem State.withLvu_kns (s : State) (x : Levelling) :
    (s.withLvu x).kns = s.kns := rfl
@[simp] theorem State.withLvu_bdu (s : State) (x : Levelling) :
    (s.withLvu x).bdu = s.bdu := rfl
@[simp] theorem State.withLvu_sju (s : State) (x : Levelling) :
    (s.withLvu x).sju = s.sju := rfl
@[simp] theorem State.withLvu_pfu (s : State) (x : Levelling) :
    (s.withLvu x).pfu = s.pfu := rfl
@[simp] theorem State.withLvu_cp (s : State) (x : Levelling) :
    (s.withLvu x).cp = s.cp := rfl
@[simp] theorem State.withLvu_pfs (s : State) (x : Levelling) :
    (s.withLvu x).pfs = s.pfs := rfl
@[simp] theorem State.withLvu_prm (s : State) (x : Levelling) :
    (s.withLvu x).prm = s.prm := rfl
@[simp] theorem State.withLvu_loaded (s : State) (x : Levelling) :
    (s.withLvu x).loaded = s.loaded := rfl
@[simp] theorem State.withLvu_rst (s : State) (x : Levelling) :
    (s.withLvu x).rst = s.rst := rfl
@[simp] theorem State.withLvu_pending (s : State) (x : Levelling) :
    (s.withLvu x).pending = s.pending := rfl

@[simp] theorem State.withKns_sa (s : State) (x : Kneeling) :
    (s.withKns x).sa = s.sa := rfl
@[simp] theorem State.withKns_ciu (s : State) (x : Kneeling) :
    (s.withKns x).ciu = s.ciu := rfl
@[simp] theorem State.withKns_shc (s : State) (x : Kneeling) :
    (s.withKns x).shc = s.shc := rfl
@[simp] theorem State.withKns_dcu (s : State) (x : Kneeling) :
    (s.withKns x).dcu = s.dcu := rfl
@[simp] theorem State.withKns_lvu (s : State) (x : Kneeling) :
    (s.withKns x).lvu = s.lvu := rfl
@[simp] theorem State.withKns_kns (s : State) (x : Kneeling) :
    (s.withKns x).kns = x := rfl
@[simp] theorem State.withKns_bdu (s : State) (x : Kneeling) :
    (s.withKns x).bdu = s.bdu := rfl
@[simp] theorem State.withKns_sju (s : State) (x : Kneeling) :
    (s.withKns x).sju = s.sju := rfl
@[simp] theorem State.withKns_pfu (s : State) (x : Kneeling) :
    (s.withKns x).pfu = s.pfu := rfl
@[simp] theorem State.withKns_cp (s : State) (x : Kneeling) :
    (s.withKns x).cp = s.cp := rfl
@[simp] theorem State.withKns_pfs (s : State) (x : Kneeling) :
    (s.withKns x).pfs = s.pfs := rfl
@[simp] theorem State.withKns_prm (s : State) (x : Kneeling) :
    (s.withKns x).prm = s.prm := rfl
@[simp] theorem State.withKns_loaded (s : State) (x : Kneeling) :
    (s.withKns x).loaded = s.loaded := rfl
@[simp] theorem State.withKns_rst (s : State) (x : Kneeling) :
    (s.withKns x).rst = s.rst := rfl
@[simp] theorem State.withKns_pending (s : State) (x : Kneeling) :
    (s.withKns x).pending = s.pending := rfl

@[simp] theorem State.withBdu_sa (s : State) (x : Brake) :
    (s.withBdu x).sa = s.sa := rfl
@[simp] theorem State.withBdu_ciu (s : State) (x : Brake) :
    (s.withBdu x).ciu = s.ciu := rfl
@[simp] theorem State.withBdu_shc (s : State) (x : Brake) :
    (s.withBdu x).shc = s.shc := rfl
@[simp] theorem State.withBdu_dcu (s : State) (x : Brake) :
    (s.withBdu x).dcu = s.dcu := rfl
@[simp] theorem State.withBdu_lvu (s : State) (x : Brake) :
    (s.withBdu x).lvu = s.lvu := rfl
@[simp] theorem State.withBdu_kns (s : State) (x : Brake) :
    (s.withBdu x).kns = s.kns := rfl
@[simp] theorem State.withBdu_bdu (s : State) (x : Brake) :
    (s.withBdu x).bdu = x := rfl
@[simp] theorem State.withBdu_sju (s : State) (x : Brake) :
    (s.withBdu x).sju = s.sju := rfl
@[simp] theorem State.withBdu_pfu (s : State) (x : Brake) :
    (s.withBdu x).pfu = s.pfu := rfl
@[simp] theorem State.withBdu_cp (s : State) (x : Brake) :
    (s.withBdu x).cp = s.cp := rfl
@[simp] theorem State.withBdu_pfs (s : State) (x : Brake) :
    (s.withBdu x).pfs = s.pfs := rfl
@[simp] theorem State.withBdu_prm (s : State) (x : Brake) :
    (s.withBdu x).prm = s.prm := rfl
@[simp] theorem State.withBdu_loaded (s : State) (x : Brake) :
    (s.withBdu x).loaded = s.loaded := rfl
@[simp] theorem State.withBdu_rst (s : State) (x : Brake) :
    (s.withBdu x).rst = s.rst := rfl
@[simp] theorem State.withBdu_pending (s : State) (x : Brake) :
    (s.withBdu x).pending = s.pending := rfl

@[simp] theorem State.withSju_sa (s : State) (x : Steer) :
    (s.withSju x).sa = s.sa := rfl
@[simp] theorem State.withSju_ciu (s : State) (x : Steer) :
    (s.withSju x).ciu = s.ciu := rfl
@[simp] theorem State.withSju_shc (s : State) (x : Steer) :
    (s.withSju x).shc = s.shc := rfl
@[simp] theorem State.withSju_dcu (s : State) (x : Steer) :
    (s.withSju x).dcu = s.dcu := rfl
@[simp] theorem State.withSju_lvu (s : State) (x : Steer) :
    (s.withSju x).lvu = s.lvu := rfl
@[simp] theorem State.withSju_kns (s : State) (x : Steer) :
    (s.withSju x).kns = s.kns := rfl
@[simp] theorem State.withSju_bdu (s : State) (x : Steer) :
    (s.withSju x).bdu = s.bdu := rfl
@[simp] theorem State.withSju_sju (s : State) (x : Steer) :
    (s.withSju x).sju = x := rfl
@[simp] theorem State.withSju_pfu (s : State) (x : Steer) :
    (s.withSju x).pfu = s.pfu := rfl
@[simp] theorem State.withSju_cp (s : State) (x : Steer) :
    (s.withSju x).cp = s.cp := rfl
@[simp] theorem State.withSju_pfs (s : State) (x : Steer) :
    (s.withSju x).pfs = s.pfs := rfl
@[simp] theorem State.withSju_prm (s : State) (x : Steer) :
    (s.withSju x).prm = s.prm := rfl
@[simp] theorem State.withSju_loaded (s : State) (x : Steer) :
    (s.withSju x).loaded = s.loaded := rfl
@[simp] theorem State.withSju_rst (s : State) (x : Steer) :
    (s.withSju x).rst = s.rst := rfl
@[simp] theorem State.withSju_pending (s : State) (x : Steer) :
    (s.withSju x).pending = s.pending := rfl

@[simp] theorem State.withPfu_sa (s : State) (x : PulseUnit) :
    (s.withPfu x).sa = s.sa := rfl
@[simp] theorem State.withPfu_ciu (s : State) (x : PulseUnit) :
    (s.withPfu x).ciu = s.ciu := rfl
@[simp] theorem State.withPfu_shc (s : State) (x : PulseUnit) :
    (s.withPfu x).shc = s.shc := rfl
@[simp] theorem State.withPfu_dcu (s : State) (x : PulseUnit) :
    (s.withPfu x).dcu = s.dcu := rfl
@[simp] theorem State.withPfu_lvu (s : State) (x : PulseUnit) :
    (s.withPfu x).lvu = s.lvu := rfl
@[simp] theorem State.withPfu_kns (s : State) (x : PulseUnit) :
    (s.withPfu x).kns = s.kns := rfl
@[simp] theorem State.withPfu_bdu (s : State) (x : PulseUnit) :
    (s.withPfu x).bdu = s.bdu := rfl
@[simp] theorem State.withPfu_sju (s : State) (x : PulseUnit) :
    (s.withPfu x).sju = s.sju := rfl
@[simp] theorem State.withPfu_pfu (s : State) (x : PulseUnit) :
    (s.withPfu x).pfu = x := rfl
@[simp] theorem State.withPfu_cp (s : State) (x : PulseUnit) :
    (s.withPfu x).cp = s.cp := rfl
@[simp] theorem State.withPfu_pfs (s : State) (x : PulseUnit) :
    (s.withPfu x).pfs = s.pfs := rfl
@[simp] theorem State.withPfu_prm (s : State) (x : PulseUnit) :
    (s.withPfu x).prm = s.prm := rfl
@[simp] theorem State.withPfu_loaded (s : State) (x : PulseUnit) :
    (s.withPfu x).loaded = s.loaded := rfl
@[simp] theorem State.withPfu_rst (s : State) (x : PulseUnit) :
    (s.withPfu x).rst = s.rst := rfl
@[simp] theorem State.withPfu_pending (s : State) (x : PulseUnit) :
    (s.withPfu x).pending = s.pending := rfl

@[simp] theorem State.withCp_sa (s : State) (x : Ports) :
    (s.withCp x).sa = s.sa := rfl
@[simp] theorem State.withCp_ciu (s : State) (x : Ports) :
    (s.withCp x).ciu = s.ciu := rfl
@[simp] theorem State.withCp_shc (s : State) (x : Ports) :
    (s.withCp x).shc = s.shc := rfl
@[simp] theorem State.withCp_dcu (s : State) (x : Ports) :
    (s.withCp x).dcu = s.dcu := rfl
@[simp] theorem State.withCp_lvu (s : State) (x : Ports) :
    (s.withCp x).lvu = s.lvu := rfl
@[simp] theorem State.withCp_kns (s : State) (x : Ports) :
    (s.withCp x).kns = s.kns := rfl
@[simp] theorem State.withCp_bdu (s : State) (x : Ports) :
    (s.withCp x).bdu = s.bdu := rfl
@[simp] theorem State.withCp_sju (s : State) (x : Ports) :
    (s.withCp x).sju = s.sju := rfl
@[simp] theorem State.withCp_pfu (s : State) (x : Ports) :
    (s.withCp x).pfu = s.pfu := rfl
@[simp] theorem State.withCp_cp (s : State) (x : Ports) :
    (s.withCp x).cp = x := rfl
@[simp] theorem State.withCp_pfs (s : State) (x : Ports) :
    (s.withCp x).pfs = s.pfs := rfl
@[simp] theorem State.withCp_prm (s : State) (x : Ports) :
    (s.withCp x).prm = s.prm := rfl
@[simp] theorem State.withCp_loaded (s : State) (x : Ports) :
    (s.withCp x).loaded = s.loaded := rfl
@[simp] theorem State.withCp_rst (s : State) (x : Ports) :
    (s.withCp x).rst = s.rst := rfl
@[simp] theorem State.withCp_pending (s : State) (x : Ports) :
    (s.withCp x).pending = s.pending := rfl

@[simp] theorem State.withPfs_sa (s : State) (x : Store) :
    (s.withPfs x).sa = s.sa := rfl
@[simp] theorem State.withPfs_ciu (s : State) (x : Store) :
    (s.withPfs x).ciu = s.ciu := rfl
@[simp] theorem State.withPfs_shc (s : State) (x : Store) :
    (s.withPfs x).shc = s.shc := rfl
@[simp] theorem State.withPfs_dcu (s : State) (x : Store) :
    (s.withPfs x).dcu = s.dcu := rfl
@[simp] theorem State.withPfs_lvu (s : State) (x : Store) :
    (s.withPfs x).lvu = s.lvu := rfl
@[simp] theorem State.withPfs_kns (s : State) (x : Store) :
    (s.withPfs x).kns = s.kns := rfl
@[simp] theorem State.withPfs_bdu (s : State) (x : Store) :
    (s.withPfs x).bdu = s.bdu := rfl
@[simp] theorem State.withPfs_sju (s : State) (x : Store) :
    (s.withPfs x).sju = s.sju := rfl
@[simp] theorem State.withPfs_pfu (s : State) (x : Store) :
    (s.withPfs x).pfu = s.pfu := rfl
@[simp] theorem State.withPfs_cp (s : State) (x : Store) :
    (s.withPfs x).cp = s.cp := rfl
@[simp] theorem State.withPfs_pfs (s : State) (x : Store) :
    (s.withPfs x).pfs = x := rfl
@[simp] theorem State.withPfs_prm (s : State) (x : Store) :
    (s.withPfs x).prm = s.prm := rfl
@[simp] theorem State.withPfs_loaded (s : State) (x : Store) :
    (s.withPfs x).loaded = s.loaded := rfl
@[simp] theorem State.withPfs_rst (s : State) (x : Store) :
    (s.withPfs x).rst = s.rst := rfl
@[simp] theorem State.withPfs_pending (s : State) (x : Store) :
    (s.withPfs x).pending = s.pending := rfl

@[simp] theorem State.withPrm_sa (s : State) (x : Params) :
    (s.withPrm x).sa = s.sa := rfl
@[simp] theorem State.withPrm_ciu (s : State) (x : Params) :
    (s.withPrm x).ciu = s.ciu := rfl
@[simp] theorem State.withPrm_shc (s : State) (x : Params) :
    (s.withPrm x).shc = s.shc := rfl
@[simp] theorem State.withPrm_dcu (s : State) (x : Params) :
    (s.withPrm x).dcu = s.dcu := rfl
@[simp] theorem State.withPrm_lvu (s : State) (x : Params) :
    (s.withPrm x).lvu = s.lvu := rfl
@[simp] theorem State.withPrm_kns (s : State) (x : Params) :
    (s.withPrm x).kns = s.kns := rfl
@[simp] theorem State.withPrm_bdu (s : State) (x : Params) :
    (s.withPrm x).bdu = s.bdu := rfl
@[simp] theorem State.withPrm_sju (s : State) (x : Params) :
    (s.withPrm x).sju = s.sju := rfl
@[simp] theorem State.withPrm_pfu (s : State) (x : Params) :
    (s.withPrm x).pfu = s.pfu := rfl
@[simp] theorem State.withPrm_cp (s : State) (x : Params) :
    (s.withPrm x).cp = s.cp := rfl
@[simp] theorem State.withPrm_pfs (s : State) (x : Params) :
    (s.withPrm x).pfs = s.pfs := rfl
@[simp] theorem State.withPrm_prm (s : State) (x : Params) :
    (s.withPrm x).prm = x := rfl
@[simp] theorem State.withPrm_loaded (s : State) (x : Params) :
    (s.withPrm x).loaded = s.loaded := rfl
@[simp] theorem State.withPrm_rst (s : State) (x : Params) :
    (s.withPrm x).rst = s.rst := rfl
@[simp] theorem State.withPrm_pending (s : State) (x : Params) :
    (s.withPrm x).pending = s.pending := rfl

@[simp] theorem State.withLoaded_sa (s : State) (x : Bool) :
    (s.withLoaded x).sa = s.sa := rfl
@[simp] theorem State.withLoaded_ciu (s : State) (x : Bool) :
    (s.withLoaded x).ciu = s.ciu := rfl
@[simp] theorem State.withLoaded_shc (s : State) (x : Bool) :
    (s.withLoaded x).shc = s.shc := rfl
@[simp] theorem State.withLoaded_dcu (s : State) (x : Bool) :
    (s.withLoaded x).dcu = s.dcu := rfl
@[simp] theorem State.withLoaded_lvu (s : State) (x : Bool) :
    (s.withLoaded x).lvu = s.lvu := rfl
@[simp] theorem State.withLoaded_kns (s : State) (x : Bool) :
    (s.withLoaded x).kns = s.kns := rfl
@[simp] theorem State.withLoaded_bdu (s : State) (x : Bool) :
    (s.withLoaded x).bdu = s.bdu := rfl
@[simp] theorem State.withLoaded_sju (s : State) (x : Bool) :
    (s.withLoaded x).sju = s.sju := rfl
@[simp] theorem State.withLoaded_pfu (s : State) (x : Bool) :
    (s.withLoaded x).pfu = s.pfu := rfl
@[simp] theorem State.withLoaded_cp (s : State) (x : Bool) :
    (s.withLoaded x).cp = s.cp := rfl
@[simp] theorem State.withLoaded_pfs (s : State) (x : Bool) :
    (s.withLoaded x).pfs = s.pfs := rfl
@[simp] theorem State.withLoaded_prm (s : State) (x : Bool) :
    (s.withLoaded x).prm = s.prm := rfl
@[simp] theorem State.withLoaded_loaded (s : State) (x : Bool) :
    (s.withLoaded x).loaded = x := rfl
@[simp] theorem State.withLoaded_rst (s : State) (x : Bool) :
    (s.withLoaded x).rst = s.rst := rfl
@[simp] theorem State.withLoaded_pending (s : State) (x : Bool) :
    (s.withLoaded x).pending = s.pending := rfl

@[simp] theorem State.withRst_sa (s : State) (x : ResetLine) :
    (s.withRst x).sa = s.sa := rfl
@[simp] theorem State.withRst_ciu (s : State) (x : ResetLine) :
    (s.withRst x).ciu = s.ciu := rfl
@[simp] theorem State.withRst_shc (s : State) (x : ResetLine) :
    (s.withRst x).shc = s.shc := rfl
@[simp] theorem State.withRst_dcu (s : State) (x : ResetLine) :
    (s.withRst x).dcu = s.dcu := rfl
@[simp] theorem State.withRst_lvu (s : State) (x : ResetLine) :
    (s.withRst x).lvu = s.lvu := rfl
@[simp] theorem State.withRst_kns (s : State) (x : ResetLine) :
    (s.withRst x).kns = s.kns := rfl
@[simp] theorem State.withRst_bdu (s : State) (x : ResetLine) :
    (s.withRst x).bdu = s.bdu := rfl
@[simp] theorem State.withRst_sju (s : State) (x : ResetLine) :
    (s.withRst x).sju = s.sju := rfl
@[simp] theorem State.withRst_pfu (s : State) (x : ResetLine) :
    (s.withRst x).pfu = s.pfu := rfl
@[simp] theorem State.withRst_cp (s : State) (x : ResetLine) :
    (s.withRst x).cp = s.cp := rfl
@[simp] theorem State.withRst_pfs (s : State) (x : ResetLine) :
    (s.withRst x).pfs = s.pfs := rfl
@[simp] theorem State.withRst_prm (s : State) (x : ResetLine) :
    (s.withRst x).prm = s.prm := rfl
@[simp] theorem State.withRst_loaded (s : State) (x : ResetLine) :
    (s.withRst x).loaded = s.loaded := rfl
@[simp] theorem State.withRst_rst (s : State) (x : ResetLine) :
    (s.withRst x).rst = x := rfl
@[simp] theorem State.withRst_pending (s : State) (x : ResetLine) :
    (s.withRst x).pending = s.pending := rfl

@[simp] theorem State.withPending_sa (s : State) (x : List Instr) :
    (s.withPending x).sa = s.sa := rfl
@[simp] theorem State.withPending_ciu (s : State) (x : List Instr) :
    (s.withPending x).ciu = s.ciu := rfl
@[simp] theorem State.withPending_shc (s : State) (x : List Instr) :
    (s.withPending x).shc = s.shc := rfl
@[simp] theorem State.withPending_dcu (s : State) (x : List Instr) :
    (s.withPending x).dcu = s.dcu := rfl
@[simp] theorem State.withPending_lvu (s : State) (x : List Instr) :
    (s.withPending x).lvu = s.lvu := rfl
@[simp] theorem State.withPending_kns (s : State) (x : List Instr) :
    (s.withPending x).kns = s.kns := rfl
@[simp] theorem State.withPending_bdu (s : State) (x : List Instr) :
    (s.withPending x).bdu = s.bdu := rfl
@[simp] theorem State.withPending_sju (s : State) (x : List Instr) :
    (s.withPending x).sju = s.sju := rfl
@[simp] theorem State.withPending_pfu (s : State) (x : List Instr) :
    (s.withPending x).pfu = s.pfu := rfl
@[simp] theorem State.withPending_cp (s : State) (x : List Instr) :
    (s.withPending x).cp = s.cp := rfl
@[simp] theorem State.withPending_pfs (s : State) (x : List Instr) :
    (s.withPending x).pfs = s.pfs := rfl
@[simp] theorem State.withPending_prm (s : State) (x : List Instr) :
    (s.withPending x).prm = s.prm := rfl
@[simp] theorem State.withPending_loaded (s : State) (x : List Instr) :
    (s.withPending x).loaded = s.loaded := rfl
@[simp] theorem State.withPending_rst (s : State) (x : List Instr) :
    (s.withPending x).rst = s.rst := rfl
@[simp] theorem State.withPending_pending (s : State) (x : List Instr) :
    (s.withPending x).pending = x := rfl

end Sys2Proof.Machine
end

