-- ==== Sys2Proof/Laws/Frames.lean ====
section
/-! SUPPORT. What each shared operation leaves unchanged: the blocks it does not own, and in the store and the ports
everything but the fault list and the attention sets, unless the operation is a change of mode or hands over the drive
indications. One lemma per operation, a conjunction whose parts are rewriting rules. -/

namespace Sys2Proof.Machine

theorem Store.rest_eq {p q : Store} (h : p.rest = q.rest) :
    p.mode = q.mode ∧ p.startUp = q.startUp ∧ p.profile = q.profile ∧ p.confirmF = q.confirmF ∧
      p.confirmB = q.confirmB ∧ p.recorded = q.recorded ∧ p.recordedSections = q.recordedSections ∧
      p.integrity = q.integrity ∧ p.timeMs = q.timeMs ∧ p.cause = q.cause := by
  simp only [Store.rest, Store.mk.injEq] at h
  simp [h]

@[simp] theorem Store.rest_faults (p : Store) (f : List FaultEntry) (o : Bool) :
    Store.rest { p with faults := f, overflow := o } = p.rest := rfl

@[simp] theorem Store.rest_faultList (p : Store) (f : List FaultEntry) :
    Store.rest { p with faults := f } = p.rest := rfl

/-- A fold of operations that each leave a view unchanged leaves it unchanged. -/
theorem foldl_keeps {α β : Type} {f : State → α → State} (g : State → β) (h : ∀ s x, g (f s x) = g s) (xs : List α)
    (s : State) : g (xs.foldl f s) = g s := by
  induction xs generalizing s with
  | nil => rfl
  | cons x xs ih => rw [List.foldl_cons, ih, h]

theorem forEach_keeps {α β : Type} {f : α → State → State} (g : State → β) (h : ∀ x s, g (f x s) = g s)
    (test : α → Bool) (xs : List α) (s : State) : g (forEach xs test f s) = g s := by
  refine foldl_keeps g (fun t x => ?_) xs s
  split
  · exact h x t
  · rfl

@[simp] theorem raiseAttention_frame (k : Attention) (s : State) :
    (raiseAttention k s).sa = s.sa ∧ (raiseAttention k s).ciu = s.ciu ∧ (raiseAttention k s).shc = s.shc ∧
      (raiseAttention k s).dcu = s.dcu ∧ (raiseAttention k s).lvu = s.lvu ∧ (raiseAttention k s).kns = s.kns ∧
      (raiseAttention k s).bdu = s.bdu ∧ (raiseAttention k s).sju = s.sju ∧ (raiseAttention k s).pfu = s.pfu ∧
      (raiseAttention k s).pfs = s.pfs ∧ (raiseAttention k s).prm = s.prm ∧ (raiseAttention k s).loaded = s.loaded ∧
      (raiseAttention k s).rst = s.rst ∧ (raiseAttention k s).pending = s.pending ∧
      (raiseAttention k s).cp.rest = s.cp.rest := by
  have h : (s.cp.rest.port) = s.cp.port.map (fun q => { q with attn := 0#8 }) := rfl
  simp [raiseAttention, Ports.rest, PerPort.map, PerPort.ofFn, PerPort.get]

@[simp] theorem raiseFault_frame (kind : FaultKind) (source : Nat) (s : State) :
    (raiseFault kind source s).sa = s.sa ∧ (raiseFault kind source s).ciu = s.ciu ∧
      (raiseFault kind source s).shc = s.shc ∧ (raiseFault kind source s).dcu = s.dcu ∧
      (raiseFault kind source s).lvu = s.lvu ∧ (raiseFault kind source s).kns = s.kns ∧
      (raiseFault kind source s).bdu = s.bdu ∧ (raiseFault kind source s).sju = s.sju ∧
      (raiseFault kind source s).pfu = s.pfu ∧ (raiseFault kind source s).prm = s.prm ∧
      (raiseFault kind source s).loaded = s.loaded ∧ (raiseFault kind source s).rst = s.rst ∧
      (raiseFault kind source s).pending = s.pending ∧ (raiseFault kind source s).pfs.rest = s.pfs.rest ∧
      (raiseFault kind source s).cp.rest = s.cp.rest := by
  unfold raiseFault
  try dsimp only
  (repeat' split) <;> simp

@[simp] theorem endFault_frame (kind : FaultKind) (source : Nat) (s : State) :
    (endFault kind source s).sa = s.sa ∧ (endFault kind source s).ciu = s.ciu ∧
      (endFault kind source s).shc = s.shc ∧ (endFault kind source s).dcu = s.dcu ∧
      (endFault kind source s).lvu = s.lvu ∧ (endFault kind source s).kns = s.kns ∧
      (endFault kind source s).bdu = s.bdu ∧ (endFault kind source s).sju = s.sju ∧
      (endFault kind source s).pfu = s.pfu ∧ (endFault kind source s).cp = s.cp ∧
      (endFault kind source s).prm = s.prm ∧ (endFault kind source s).loaded = s.loaded ∧
      (endFault kind source s).rst = s.rst ∧ (endFault kind source s).pending = s.pending ∧
      (endFault kind source s).pfs.rest = s.pfs.rest := by
  unfold endFault
  try dsimp only
  simp

@[simp] theorem forEach_raiseFault_frame {α : Type} (kind : FaultKind) (src : α → Nat) (test : α → Bool) (xs : List α) (s : State) :
    (forEach xs test (fun x => raiseFault kind (src x)) s).sa = s.sa ∧
      (forEach xs test (fun x => raiseFault kind (src x)) s).ciu = s.ciu ∧
      (forEach xs test (fun x => raiseFault kind (src x)) s).shc = s.shc ∧
      (forEach xs test (fun x => raiseFault kind (src x)) s).dcu = s.dcu ∧
      (forEach xs test (fun x => raiseFault kind (src x)) s).lvu = s.lvu ∧
      (forEach xs test (fun x => raiseFault kind (src x)) s).kns = s.kns ∧
      (forEach xs test (fun x => raiseFault kind (src x)) s).bdu = s.bdu ∧
      (forEach xs test (fun x => raiseFault kind (src x)) s).sju = s.sju ∧
      (forEach xs test (fun x => raiseFault kind (src x)) s).pfu = s.pfu ∧
      (forEach xs test (fun x => raiseFault kind (src x)) s).prm = s.prm ∧
      (forEach xs test (fun x => raiseFault kind (src x)) s).loaded = s.loaded ∧
      (forEach xs test (fun x => raiseFault kind (src x)) s).rst = s.rst ∧
      (forEach xs test (fun x => raiseFault kind (src x)) s).pending = s.pending ∧
      (forEach xs test (fun x => raiseFault kind (src x)) s).pfs.rest = s.pfs.rest ∧
      (forEach xs test (fun x => raiseFault kind (src x)) s).cp.rest = s.cp.rest := by
  exact ⟨forEach_keeps State.sa (fun _ _ => by simp) test xs s,
    forEach_keeps State.ciu (fun _ _ => by simp) test xs s,
    forEach_keeps State.shc (fun _ _ => by simp) test xs s,
    forEach_keeps State.dcu (fun _ _ => by simp) test xs s,
    forEach_keeps State.lvu (fun _ _ => by simp) test xs s,
    forEach_keeps State.kns (fun _ _ => by simp) test xs s,
    forEach_keeps State.bdu (fun _ _ => by simp) test xs s,
    forEach_keeps State.sju (fun _ _ => by simp) test xs s,
    forEach_keeps State.pfu (fun _ _ => by simp) test xs s,
    forEach_keeps State.prm (fun _ _ => by simp) test xs s,
    forEach_keeps State.loaded (fun _ _ => by simp) test xs s,
    forEach_keeps State.rst (fun _ _ => by simp) test xs s,
    forEach_keeps State.pending (fun _ _ => by simp) test xs s,
    forEach_keeps (fun t => t.pfs.rest) (fun _ _ => by simp) test xs s,
    forEach_keeps (fun t => t.cp.rest) (fun _ _ => by simp) test xs s⟩

@[simp] theorem forEach_endFault_frame {α : Type} (kind : FaultKind) (src : α → Nat) (test : α → Bool) (xs : List α) (s : State) :
    (forEach xs test (fun x => endFault kind (src x)) s).sa = s.sa ∧
      (forEach xs test (fun x => endFault kind (src x)) s).ciu = s.ciu ∧
      (forEach xs test (fun x => endFault kind (src x)) s).shc = s.shc ∧
      (forEach xs test (fun x => endFault kind (src x)) s).dcu = s.dcu ∧
      (forEach xs test (fun x => endFault kind (src x)) s).lvu = s.lvu ∧
      (forEach xs test (fun x => endFault kind (src x)) s).kns = s.kns ∧
      (forEach xs test (fun x => endFault kind (src x)) s).bdu = s.bdu ∧
      (forEach xs test (fun x => endFault kind (src x)) s).sju = s.sju ∧
      (forEach xs test (fun x => endFault kind (src x)) s).pfu = s.pfu ∧
      (forEach xs test (fun x => endFault kind (src x)) s).cp = s.cp ∧
      (forEach xs test (fun x => endFault kind (src x)) s).prm = s.prm ∧
      (forEach xs test (fun x => endFault kind (src x)) s).loaded = s.loaded ∧
      (forEach xs test (fun x => endFault kind (src x)) s).rst = s.rst ∧
      (forEach xs test (fun x => endFault kind (src x)) s).pending = s.pending ∧
      (forEach xs test (fun x => endFault kind (src x)) s).pfs.rest = s.pfs.rest := by
  exact ⟨forEach_keeps State.sa (fun _ _ => by simp) test xs s,
    forEach_keeps State.ciu (fun _ _ => by simp) test xs s,
    forEach_keeps State.shc (fun _ _ => by simp) test xs s,
    forEach_keeps State.dcu (fun _ _ => by simp) test xs s,
    forEach_keeps State.lvu (fun _ _ => by simp) test xs s,
    forEach_keeps State.kns (fun _ _ => by simp) test xs s,
    forEach_keeps State.bdu (fun _ _ => by simp) test xs s,
    forEach_keeps State.sju (fun _ _ => by simp) test xs s,
    forEach_keeps State.pfu (fun _ _ => by simp) test xs s,
    forEach_keeps State.cp (fun _ _ => by simp) test xs s,
    forEach_keeps State.prm (fun _ _ => by simp) test xs s,
    forEach_keeps State.loaded (fun _ _ => by simp) test xs s,
    forEach_keeps State.rst (fun _ _ => by simp) test xs s,
    forEach_keeps State.pending (fun _ _ => by simp) test xs s,
    forEach_keeps (fun t => t.pfs.rest) (fun _ _ => by simp) test xs s⟩

@[simp] theorem commitRequest_frame (g : FrameGroup) (s : State) :
    (commitRequest g s).sa = s.sa ∧ (commitRequest g s).ciu = s.ciu ∧ (commitRequest g s).shc = s.shc ∧
      (commitRequest g s).dcu = s.dcu ∧ (commitRequest g s).lvu = s.lvu ∧ (commitRequest g s).kns = s.kns ∧
      (commitRequest g s).bdu = s.bdu ∧ (commitRequest g s).sju = s.sju ∧ (commitRequest g s).cp = s.cp ∧
      (commitRequest g s).prm = s.prm ∧ (commitRequest g s).loaded = s.loaded ∧ (commitRequest g s).rst = s.rst ∧
      (commitRequest g s).pending = s.pending ∧ (commitRequest g s).pfs.rest = s.pfs.rest := by
  unfold commitRequest
  try dsimp only
  (repeat' split) <;> simp

@[simp] theorem stageAxle_frame (x : Axle) (i e : Int) (s : State) :
    (stageAxle x i e s).sa = s.sa ∧ (stageAxle x i e s).ciu = s.ciu ∧ (stageAxle x i e s).shc = s.shc ∧
      (stageAxle x i e s).dcu = s.dcu ∧ (stageAxle x i e s).lvu = s.lvu ∧ (stageAxle x i e s).kns = s.kns ∧
      (stageAxle x i e s).bdu = s.bdu ∧ (stageAxle x i e s).sju = s.sju ∧ (stageAxle x i e s).cp = s.cp ∧
      (stageAxle x i e s).pfs = s.pfs ∧ (stageAxle x i e s).prm = s.prm ∧ (stageAxle x i e s).loaded = s.loaded ∧
      (stageAxle x i e s).rst = s.rst ∧ (stageAxle x i e s).pending = s.pending := by
  unfold stageAxle
  try dsimp only
  simp

@[simp] theorem stageJoint_frame (v : Int) (s : State) :
    (stageJoint v s).sa = s.sa ∧ (stageJoint v s).ciu = s.ciu ∧ (stageJoint v s).shc = s.shc ∧
      (stageJoint v s).dcu = s.dcu ∧ (stageJoint v s).lvu = s.lvu ∧ (stageJoint v s).kns = s.kns ∧
      (stageJoint v s).bdu = s.bdu ∧ (stageJoint v s).sju = s.sju ∧ (stageJoint v s).cp = s.cp ∧
      (stageJoint v s).pfs = s.pfs ∧ (stageJoint v s).prm = s.prm ∧ (stageJoint v s).loaded = s.loaded ∧
      (stageJoint v s).rst = s.rst ∧ (stageJoint v s).pending = s.pending := by
  unfold stageJoint
  try dsimp only
  simp

@[simp] theorem stageCorners_frame (f v : PerCorner Pulse) (s : State) :
    (stageCorners f v s).sa = s.sa ∧ (stageCorners f v s).ciu = s.ciu ∧ (stageCorners f v s).shc = s.shc ∧
      (stageCorners f v s).dcu = s.dcu ∧ (stageCorners f v s).lvu = s.lvu ∧ (stageCorners f v s).kns = s.kns ∧
      (stageCorners f v s).bdu = s.bdu ∧ (stageCorners f v s).sju = s.sju ∧ (stageCorners f v s).cp = s.cp ∧
      (stageCorners f v s).pfs = s.pfs ∧ (stageCorners f v s).prm = s.prm ∧ (stageCorners f v s).loaded = s.loaded ∧
      (stageCorners f v s).rst = s.rst ∧ (stageCorners f v s).pending = s.pending := by
  unfold stageCorners
  try dsimp only
  simp

@[simp] theorem stageBridge_frame (d : Int) (s : State) :
    (stageBridge d s).sa = s.sa ∧ (stageBridge d s).ciu = s.ciu ∧ (stageBridge d s).shc = s.shc ∧
      (stageBridge d s).dcu = s.dcu ∧ (stageBridge d s).lvu = s.lvu ∧ (stageBridge d s).kns = s.kns ∧
      (stageBridge d s).bdu = s.bdu ∧ (stageBridge d s).sju = s.sju ∧ (stageBridge d s).cp = s.cp ∧
      (stageBridge d s).pfs = s.pfs ∧ (stageBridge d s).prm = s.prm ∧ (stageBridge d s).loaded = s.loaded ∧
      (stageBridge d s).rst = s.rst ∧ (stageBridge d s).pending = s.pending := by
  unfold stageBridge
  try dsimp only
  simp

@[simp] theorem State.setChan_frame (k : Chan) (c : ChanRec) (s : State) :
    (s.setChan k c).sa = s.sa ∧ (s.setChan k c).ciu = s.ciu ∧ (s.setChan k c).shc = s.shc ∧
      (s.setChan k c).dcu = s.dcu ∧ (s.setChan k c).lvu = s.lvu ∧ (s.setChan k c).kns = s.kns ∧
      (s.setChan k c).bdu = s.bdu ∧ (s.setChan k c).sju = s.sju ∧ (s.setChan k c).cp = s.cp ∧
      (s.setChan k c).pfs = s.pfs ∧ (s.setChan k c).prm = s.prm ∧ (s.setChan k c).loaded = s.loaded ∧
      (s.setChan k c).rst = s.rst ∧ (s.setChan k c).pending = s.pending := by
  simp [State.setChan]

@[simp] theorem tripChannel_frame (c : TripCause) (k : Chan) (s : State) :
    (tripChannel c k s).sa = s.sa ∧ (tripChannel c k s).ciu = s.ciu ∧ (tripChannel c k s).shc = s.shc ∧
      (tripChannel c k s).dcu = s.dcu ∧ (tripChannel c k s).lvu = s.lvu ∧ (tripChannel c k s).kns = s.kns ∧
      (tripChannel c k s).bdu = s.bdu ∧ (tripChannel c k s).sju = s.sju ∧ (tripChannel c k s).prm = s.prm ∧
      (tripChannel c k s).loaded = s.loaded ∧ (tripChannel c k s).rst = s.rst ∧
      (tripChannel c k s).pending = s.pending ∧ (tripChannel c k s).pfs.rest = s.pfs.rest ∧
      (tripChannel c k s).cp.rest = s.cp.rest := by
  unfold tripChannel
  try dsimp only
  simp

@[simp] theorem tripArmed_frame (s : State) :
    (tripArmed s).sa = s.sa ∧ (tripArmed s).ciu = s.ciu ∧ (tripArmed s).shc = s.shc ∧ (tripArmed s).dcu = s.dcu ∧
      (tripArmed s).lvu = s.lvu ∧ (tripArmed s).kns = s.kns ∧ (tripArmed s).bdu = s.bdu ∧ (tripArmed s).sju = s.sju ∧
      (tripArmed s).prm = s.prm ∧ (tripArmed s).loaded = s.loaded ∧ (tripArmed s).rst = s.rst ∧
      (tripArmed s).pending = s.pending ∧ (tripArmed s).pfs.rest = s.pfs.rest ∧ (tripArmed s).cp.rest = s.cp.rest := by
  exact ⟨foldl_keeps State.sa (fun t k => by split <;> simp) _ _,
    foldl_keeps State.ciu (fun t k => by split <;> simp) _ _,
    foldl_keeps State.shc (fun t k => by split <;> simp) _ _,
    foldl_keeps State.dcu (fun t k => by split <;> simp) _ _,
    foldl_keeps State.lvu (fun t k => by split <;> simp) _ _,
    foldl_keeps State.kns (fun t k => by split <;> simp) _ _,
    foldl_keeps State.bdu (fun t k => by split <;> simp) _ _,
    foldl_keeps State.sju (fun t k => by split <;> simp) _ _,
    foldl_keeps State.prm (fun t k => by split <;> simp) _ _,
    foldl_keeps State.loaded (fun t k => by split <;> simp) _ _,
    foldl_keeps State.rst (fun t k => by split <;> simp) _ _,
    foldl_keeps State.pending (fun t k => by split <;> simp) _ _,
    foldl_keeps (fun t => t.pfs.rest) (fun t k => by split <;> simp) _ _,
    foldl_keeps (fun t => t.cp.rest) (fun t k => by split <;> simp) _ _⟩

@[simp] theorem decideIdle_frame (s : State) :
    (decideIdle s).sa = s.sa ∧ (decideIdle s).ciu = s.ciu ∧ (decideIdle s).shc = s.shc ∧
      (decideIdle s).dcu = s.dcu ∧ (decideIdle s).lvu = s.lvu ∧ (decideIdle s).kns = s.kns ∧
      (decideIdle s).bdu = s.bdu ∧ (decideIdle s).sju = s.sju ∧ (decideIdle s).prm = s.prm ∧
      (decideIdle s).loaded = s.loaded ∧ (decideIdle s).rst = s.rst ∧ (decideIdle s).pending = s.pending ∧
      (decideIdle s).pfs.rest = s.pfs.rest ∧ (decideIdle s).cp.rest = s.cp.rest := by
  exact ⟨foldl_keeps State.sa (fun t k => by split <;> simp) _ _,
    foldl_keeps State.ciu (fun t k => by split <;> simp) _ _,
    foldl_keeps State.shc (fun t k => by split <;> simp) _ _,
    foldl_keeps State.dcu (fun t k => by split <;> simp) _ _,
    foldl_keeps State.lvu (fun t k => by split <;> simp) _ _,
    foldl_keeps State.kns (fun t k => by split <;> simp) _ _,
    foldl_keeps State.bdu (fun t k => by split <;> simp) _ _,
    foldl_keeps State.sju (fun t k => by split <;> simp) _ _,
    foldl_keeps State.prm (fun t k => by split <;> simp) _ _,
    foldl_keeps State.loaded (fun t k => by split <;> simp) _ _,
    foldl_keeps State.rst (fun t k => by split <;> simp) _ _,
    foldl_keeps State.pending (fun t k => by split <;> simp) _ _,
    foldl_keeps (fun t => t.pfs.rest) (fun t k => by split <;> simp) _ _,
    foldl_keeps (fun t => t.cp.rest) (fun t k => by split <;> simp) _ _⟩

@[simp] theorem decideRearm_frame (g : FrameGroup) (s : State) :
    (decideRearm g s).sa = s.sa ∧ (decideRearm g s).ciu = s.ciu ∧ (decideRearm g s).shc = s.shc ∧
      (decideRearm g s).dcu = s.dcu ∧ (decideRearm g s).lvu = s.lvu ∧ (decideRearm g s).kns = s.kns ∧
      (decideRearm g s).bdu = s.bdu ∧ (decideRearm g s).sju = s.sju ∧ (decideRearm g s).prm = s.prm ∧
      (decideRearm g s).loaded = s.loaded ∧ (decideRearm g s).rst = s.rst ∧ (decideRearm g s).pending = s.pending ∧
      (decideRearm g s).pfs.rest = s.pfs.rest ∧ (decideRearm g s).cp.rest = s.cp.rest := by
  exact ⟨foldl_keeps State.sa (fun t k => by split <;> simp) _ _,
    foldl_keeps State.ciu (fun t k => by split <;> simp) _ _,
    foldl_keeps State.shc (fun t k => by split <;> simp) _ _,
    foldl_keeps State.dcu (fun t k => by split <;> simp) _ _,
    foldl_keeps State.lvu (fun t k => by split <;> simp) _ _,
    foldl_keeps State.kns (fun t k => by split <;> simp) _ _,
    foldl_keeps State.bdu (fun t k => by split <;> simp) _ _,
    foldl_keeps State.sju (fun t k => by split <;> simp) _ _,
    foldl_keeps State.prm (fun t k => by split <;> simp) _ _,
    foldl_keeps State.loaded (fun t k => by split <;> simp) _ _,
    foldl_keeps State.rst (fun t k => by split <;> simp) _ _,
    foldl_keeps State.pending (fun t k => by split <;> simp) _ _,
    foldl_keeps (fun t => t.pfs.rest) (fun t k => by split <;> simp) _ _,
    foldl_keeps (fun t => t.cp.rest) (fun t k => by split <;> simp) _ _⟩

@[simp] theorem safeTrip_frame (s : State) :
    (safeTrip s).sa = s.sa ∧ (safeTrip s).ciu = s.ciu ∧ (safeTrip s).shc = s.shc ∧ (safeTrip s).dcu = s.dcu ∧
      (safeTrip s).lvu = s.lvu ∧ (safeTrip s).kns = s.kns ∧ (safeTrip s).bdu = s.bdu ∧ (safeTrip s).sju = s.sju ∧
      (safeTrip s).pfs = s.pfs ∧ (safeTrip s).prm = s.prm ∧ (safeTrip s).loaded = s.loaded ∧
      (safeTrip s).rst = s.rst ∧ (safeTrip s).pending = s.pending ∧ (safeTrip s).cp.rest = s.cp.rest := by
  unfold safeTrip
  try dsimp only
  simp

@[simp] theorem takeCommit_frame (g : FrameGroup) (s : State) :
    (takeCommit g s).sa = s.sa ∧ (takeCommit g s).ciu = s.ciu ∧ (takeCommit g s).shc = s.shc ∧
      (takeCommit g s).dcu = s.dcu ∧ (takeCommit g s).lvu = s.lvu ∧ (takeCommit g s).kns = s.kns ∧
      (takeCommit g s).bdu = s.bdu ∧ (takeCommit g s).sju = s.sju ∧ (takeCommit g s).cp = s.cp ∧
      (takeCommit g s).pfs = s.pfs ∧ (takeCommit g s).prm = s.prm ∧ (takeCommit g s).loaded = s.loaded ∧
      (takeCommit g s).rst = s.rst ∧ (takeCommit g s).pending = s.pending := by
  unfold takeCommit
  try dsimp only
  (repeat' split) <;> simp

@[simp] theorem beginFrame_frame (g : FrameGroup) (before : State) (s : State) :
    (beginFrame g before s).sa = s.sa ∧ (beginFrame g before s).ciu = s.ciu ∧ (beginFrame g before s).shc = s.shc ∧
      (beginFrame g before s).dcu = s.dcu ∧ (beginFrame g before s).lvu = s.lvu ∧
      (beginFrame g before s).kns = s.kns ∧ (beginFrame g before s).bdu = s.bdu ∧
      (beginFrame g before s).sju = s.sju ∧ (beginFrame g before s).cp = s.cp ∧ (beginFrame g before s).pfs = s.pfs ∧
      (beginFrame g before s).prm = s.prm ∧ (beginFrame g before s).loaded = s.loaded ∧
      (beginFrame g before s).rst = s.rst ∧ (beginFrame g before s).pending = s.pending := by
  unfold beginFrame
  try dsimp only
  simp

@[simp] theorem pulseBoundary_frame (g : FrameGroup) (s : State) :
    (pulseBoundary g s).sa = s.sa ∧ (pulseBoundary g s).ciu = s.ciu ∧ (pulseBoundary g s).shc = s.shc ∧
      (pulseBoundary g s).dcu = s.dcu ∧ (pulseBoundary g s).lvu = s.lvu ∧ (pulseBoundary g s).kns = s.kns ∧
      (pulseBoundary g s).bdu = s.bdu ∧ (pulseBoundary g s).sju = s.sju ∧ (pulseBoundary g s).prm = s.prm ∧
      (pulseBoundary g s).loaded = s.loaded ∧ (pulseBoundary g s).rst = s.rst ∧
      (pulseBoundary g s).pending = s.pending ∧ (pulseBoundary g s).pfs.rest = s.pfs.rest ∧
      (pulseBoundary g s).cp.rest = s.cp.rest := by
  unfold pulseBoundary
  try dsimp only
  simp

@[simp] theorem setHold_frame (h : HoldState) (s : State) :
    (setHold h s).sa = s.sa ∧ (setHold h s).ciu = s.ciu ∧ (setHold h s).dcu = s.dcu ∧ (setHold h s).lvu = s.lvu ∧
      (setHold h s).kns = s.kns ∧ (setHold h s).bdu = s.bdu ∧ (setHold h s).sju = s.sju ∧ (setHold h s).pfu = s.pfu ∧
      (setHold h s).pfs = s.pfs ∧ (setHold h s).prm = s.prm ∧ (setHold h s).loaded = s.loaded ∧
      (setHold h s).rst = s.rst ∧ (setHold h s).pending = s.pending ∧ (setHold h s).cp.rest = s.cp.rest := by
  unfold setHold
  try dsimp only
  (repeat' split) <;> simp

@[simp] theorem enterApplying_frame (s : State) :
    (enterApplying s).sa = s.sa ∧ (enterApplying s).ciu = s.ciu ∧ (enterApplying s).dcu = s.dcu ∧
      (enterApplying s).lvu = s.lvu ∧ (enterApplying s).kns = s.kns ∧ (enterApplying s).bdu = s.bdu ∧
      (enterApplying s).sju = s.sju ∧ (enterApplying s).pfu = s.pfu ∧ (enterApplying s).pfs = s.pfs ∧
      (enterApplying s).prm = s.prm ∧ (enterApplying s).loaded = s.loaded ∧ (enterApplying s).rst = s.rst ∧
      (enterApplying s).pending = s.pending ∧ (enterApplying s).cp.rest = s.cp.rest := by
  unfold enterApplying
  try dsimp only
  simp

@[simp] theorem autoApply_frame (s : State) :
    (autoApply s).sa = s.sa ∧ (autoApply s).ciu = s.ciu ∧ (autoApply s).dcu = s.dcu ∧ (autoApply s).lvu = s.lvu ∧
      (autoApply s).kns = s.kns ∧ (autoApply s).bdu = s.bdu ∧ (autoApply s).sju = s.sju ∧ (autoApply s).pfu = s.pfu ∧
      (autoApply s).pfs = s.pfs ∧ (autoApply s).prm = s.prm ∧ (autoApply s).loaded = s.loaded ∧
      (autoApply s).rst = s.rst ∧ (autoApply s).pending = s.pending ∧ (autoApply s).cp.rest = s.cp.rest := by
  unfold autoApply
  try dsimp only
  (repeat' split) <;> simp

@[simp] theorem endNotReached_frame (s : State) :
    (endNotReached s).sa = s.sa ∧ (endNotReached s).ciu = s.ciu ∧ (endNotReached s).dcu = s.dcu ∧
      (endNotReached s).lvu = s.lvu ∧ (endNotReached s).kns = s.kns ∧ (endNotReached s).bdu = s.bdu ∧
      (endNotReached s).sju = s.sju ∧ (endNotReached s).pfu = s.pfu ∧ (endNotReached s).cp = s.cp ∧
      (endNotReached s).prm = s.prm ∧ (endNotReached s).loaded = s.loaded ∧ (endNotReached s).rst = s.rst ∧
      (endNotReached s).pending = s.pending ∧ (endNotReached s).pfs.rest = s.pfs.rest := by
  unfold endNotReached
  try dsimp only
  simp

@[simp] theorem endCreep_frame (s : State) :
    (endCreep s).sa = s.sa ∧ (endCreep s).ciu = s.ciu ∧ (endCreep s).dcu = s.dcu ∧ (endCreep s).lvu = s.lvu ∧
      (endCreep s).kns = s.kns ∧ (endCreep s).bdu = s.bdu ∧ (endCreep s).sju = s.sju ∧ (endCreep s).pfu = s.pfu ∧
      (endCreep s).cp = s.cp ∧ (endCreep s).prm = s.prm ∧ (endCreep s).loaded = s.loaded ∧ (endCreep s).rst = s.rst ∧
      (endCreep s).pending = s.pending ∧ (endCreep s).pfs.rest = s.pfs.rest := by
  unfold endCreep
  try dsimp only
  (repeat' split) <;> simp

@[simp] theorem enterReleasing_frame (s : State) :
    (enterReleasing s).sa = s.sa ∧ (enterReleasing s).ciu = s.ciu ∧ (enterReleasing s).dcu = s.dcu ∧
      (enterReleasing s).lvu = s.lvu ∧ (enterReleasing s).kns = s.kns ∧ (enterReleasing s).bdu = s.bdu ∧
      (enterReleasing s).sju = s.sju ∧ (enterReleasing s).pfu = s.pfu ∧ (enterReleasing s).prm = s.prm ∧
      (enterReleasing s).loaded = s.loaded ∧ (enterReleasing s).rst = s.rst ∧
      (enterReleasing s).pending = s.pending ∧ (enterReleasing s).pfs.rest = s.pfs.rest ∧
      (enterReleasing s).cp.rest = s.cp.rest := by
  unfold enterReleasing
  try dsimp only
  simp

@[simp] theorem reachedTest_frame (s : State) :
    (reachedTest s).sa = s.sa ∧ (reachedTest s).ciu = s.ciu ∧ (reachedTest s).dcu = s.dcu ∧
      (reachedTest s).lvu = s.lvu ∧ (reachedTest s).kns = s.kns ∧ (reachedTest s).bdu = s.bdu ∧
      (reachedTest s).sju = s.sju ∧ (reachedTest s).pfu = s.pfu ∧ (reachedTest s).prm = s.prm ∧
      (reachedTest s).loaded = s.loaded ∧ (reachedTest s).rst = s.rst ∧ (reachedTest s).pending = s.pending ∧
      (reachedTest s).pfs.rest = s.pfs.rest ∧ (reachedTest s).cp.rest = s.cp.rest := by
  unfold reachedTest
  try dsimp only
  (repeat' split) <;> simp

@[simp] theorem rampStep_frame (s : State) :
    (rampStep s).sa = s.sa ∧ (rampStep s).ciu = s.ciu ∧ (rampStep s).dcu = s.dcu ∧ (rampStep s).lvu = s.lvu ∧
      (rampStep s).kns = s.kns ∧ (rampStep s).bdu = s.bdu ∧ (rampStep s).sju = s.sju ∧ (rampStep s).pfu = s.pfu ∧
      (rampStep s).pfs = s.pfs ∧ (rampStep s).prm = s.prm ∧ (rampStep s).loaded = s.loaded ∧
      (rampStep s).rst = s.rst ∧ (rampStep s).pending = s.pending ∧ (rampStep s).cp.rest = s.cp.rest := by
  unfold rampStep
  try dsimp only
  (repeat' split) <;> simp

@[simp] theorem holdBoundary_frame (s : State) :
    (holdBoundary s).sa = s.sa ∧ (holdBoundary s).ciu = s.ciu ∧ (holdBoundary s).dcu = s.dcu ∧
      (holdBoundary s).lvu = s.lvu ∧ (holdBoundary s).kns = s.kns ∧ (holdBoundary s).bdu = s.bdu ∧
      (holdBoundary s).sju = s.sju ∧ (holdBoundary s).pfu = s.pfu ∧ (holdBoundary s).prm = s.prm ∧
      (holdBoundary s).loaded = s.loaded ∧ (holdBoundary s).rst = s.rst ∧ (holdBoundary s).pending = s.pending ∧
      (holdBoundary s).pfs.rest = s.pfs.rest ∧ (holdBoundary s).cp.rest = s.cp.rest := by
  unfold holdBoundary
  try dsimp only
  (repeat' split) <;> simp

@[simp] theorem creepUpdate_frame (s : State) :
    (creepUpdate s).sa = s.sa ∧ (creepUpdate s).ciu = s.ciu ∧ (creepUpdate s).dcu = s.dcu ∧
      (creepUpdate s).lvu = s.lvu ∧ (creepUpdate s).kns = s.kns ∧ (creepUpdate s).bdu = s.bdu ∧
      (creepUpdate s).sju = s.sju ∧ (creepUpdate s).pfu = s.pfu ∧ (creepUpdate s).cp = s.cp ∧
      (creepUpdate s).pfs = s.pfs ∧ (creepUpdate s).prm = s.prm ∧ (creepUpdate s).loaded = s.loaded ∧
      (creepUpdate s).rst = s.rst ∧ (creepUpdate s).pending = s.pending := by
  unfold creepUpdate
  try dsimp only
  (repeat' split) <;> simp

@[simp] theorem startCreep_frame (s : State) :
    (startCreep s).sa = s.sa ∧ (startCreep s).ciu = s.ciu ∧ (startCreep s).dcu = s.dcu ∧
      (startCreep s).lvu = s.lvu ∧ (startCreep s).kns = s.kns ∧ (startCreep s).bdu = s.bdu ∧
      (startCreep s).sju = s.sju ∧ (startCreep s).pfu = s.pfu ∧ (startCreep s).prm = s.prm ∧
      (startCreep s).loaded = s.loaded ∧ (startCreep s).rst = s.rst ∧ (startCreep s).pending = s.pending ∧
      (startCreep s).pfs.rest = s.pfs.rest ∧ (startCreep s).cp.rest = s.cp.rest := by
  unfold startCreep
  try dsimp only
  simp

@[simp] theorem holdSpeedUpdate_frame (s : State) :
    (holdSpeedUpdate s).sa = s.sa ∧ (holdSpeedUpdate s).ciu = s.ciu ∧ (holdSpeedUpdate s).dcu = s.dcu ∧
      (holdSpeedUpdate s).lvu = s.lvu ∧ (holdSpeedUpdate s).kns = s.kns ∧ (holdSpeedUpdate s).bdu = s.bdu ∧
      (holdSpeedUpdate s).sju = s.sju ∧ (holdSpeedUpdate s).pfu = s.pfu ∧ (holdSpeedUpdate s).prm = s.prm ∧
      (holdSpeedUpdate s).loaded = s.loaded ∧ (holdSpeedUpdate s).rst = s.rst ∧
      (holdSpeedUpdate s).pending = s.pending ∧ (holdSpeedUpdate s).pfs.rest = s.pfs.rest ∧
      (holdSpeedUpdate s).cp.rest = s.cp.rest := by
  unfold holdSpeedUpdate
  try dsimp only
  (repeat' split) <;> simp

@[simp] theorem applyingExpiry_frame (s : State) :
    (applyingExpiry s).sa = s.sa ∧ (applyingExpiry s).ciu = s.ciu ∧ (applyingExpiry s).dcu = s.dcu ∧
      (applyingExpiry s).lvu = s.lvu ∧ (applyingExpiry s).kns = s.kns ∧ (applyingExpiry s).bdu = s.bdu ∧
      (applyingExpiry s).sju = s.sju ∧ (applyingExpiry s).pfu = s.pfu ∧ (applyingExpiry s).prm = s.prm ∧
      (applyingExpiry s).loaded = s.loaded ∧ (applyingExpiry s).rst = s.rst ∧
      (applyingExpiry s).pending = s.pending ∧ (applyingExpiry s).pfs.rest = s.pfs.rest ∧
      (applyingExpiry s).cp.rest = s.cp.rest := by
  unfold applyingExpiry
  try dsimp only
  (repeat' split) <;> simp

@[simp] theorem quietExpiry_frame (s : State) :
    (quietExpiry s).sa = s.sa ∧ (quietExpiry s).ciu = s.ciu ∧ (quietExpiry s).dcu = s.dcu ∧
      (quietExpiry s).lvu = s.lvu ∧ (quietExpiry s).kns = s.kns ∧ (quietExpiry s).bdu = s.bdu ∧
      (quietExpiry s).sju = s.sju ∧ (quietExpiry s).pfu = s.pfu ∧ (quietExpiry s).cp = s.cp ∧
      (quietExpiry s).prm = s.prm ∧ (quietExpiry s).loaded = s.loaded ∧ (quietExpiry s).rst = s.rst ∧
      (quietExpiry s).pending = s.pending ∧ (quietExpiry s).pfs.rest = s.pfs.rest := by
  unfold quietExpiry
  try dsimp only
  (repeat' split) <;> simp

@[simp] theorem holdSafeEntry_frame (s : State) :
    (holdSafeEntry s).sa = s.sa ∧ (holdSafeEntry s).ciu = s.ciu ∧ (holdSafeEntry s).dcu = s.dcu ∧
      (holdSafeEntry s).lvu = s.lvu ∧ (holdSafeEntry s).kns = s.kns ∧ (holdSafeEntry s).bdu = s.bdu ∧
      (holdSafeEntry s).sju = s.sju ∧ (holdSafeEntry s).pfu = s.pfu ∧ (holdSafeEntry s).prm = s.prm ∧
      (holdSafeEntry s).loaded = s.loaded ∧ (holdSafeEntry s).rst = s.rst ∧ (holdSafeEntry s).pending = s.pending ∧
      (holdSafeEntry s).pfs.rest = s.pfs.rest ∧ (holdSafeEntry s).cp.rest = s.cp.rest := by
  unfold holdSafeEntry
  try dsimp only
  simp

@[simp] theorem State.setDoor_frame (d : Door) (r : DoorRec) (s : State) :
    (s.setDoor d r).sa = s.sa ∧ (s.setDoor d r).ciu = s.ciu ∧ (s.setDoor d r).shc = s.shc ∧
      (s.setDoor d r).lvu = s.lvu ∧ (s.setDoor d r).kns = s.kns ∧ (s.setDoor d r).bdu = s.bdu ∧
      (s.setDoor d r).sju = s.sju ∧ (s.setDoor d r).pfu = s.pfu ∧ (s.setDoor d r).cp = s.cp ∧
      (s.setDoor d r).pfs = s.pfs ∧ (s.setDoor d r).prm = s.prm ∧ (s.setDoor d r).loaded = s.loaded ∧
      (s.setDoor d r).rst = s.rst ∧ (s.setDoor d r).pending = s.pending := by
  simp [State.setDoor]

@[simp] theorem examineMoving_frame (d : Door) (s : State) :
    (examineMoving d s).sa = s.sa ∧ (examineMoving d s).ciu = s.ciu ∧ (examineMoving d s).shc = s.shc ∧
      (examineMoving d s).lvu = s.lvu ∧ (examineMoving d s).kns = s.kns ∧ (examineMoving d s).bdu = s.bdu ∧
      (examineMoving d s).sju = s.sju ∧ (examineMoving d s).pfu = s.pfu ∧ (examineMoving d s).prm = s.prm ∧
      (examineMoving d s).loaded = s.loaded ∧ (examineMoving d s).rst = s.rst ∧
      (examineMoving d s).pending = s.pending ∧ (examineMoving d s).pfs.rest = s.pfs.rest ∧
      (examineMoving d s).cp.rest = s.cp.rest := by
  unfold examineMoving
  try dsimp only
  (repeat' split) <;> simp

@[simp] theorem setPhase_frame (d : Door) (p : Phase) (s : State) :
    (setPhase d p s).sa = s.sa ∧ (setPhase d p s).ciu = s.ciu ∧ (setPhase d p s).lvu = s.lvu ∧
      (setPhase d p s).kns = s.kns ∧ (setPhase d p s).bdu = s.bdu ∧ (setPhase d p s).sju = s.sju ∧
      (setPhase d p s).pfu = s.pfu ∧ (setPhase d p s).prm = s.prm ∧ (setPhase d p s).loaded = s.loaded ∧
      (setPhase d p s).rst = s.rst ∧ (setPhase d p s).pending = s.pending ∧ (setPhase d p s).pfs.rest = s.pfs.rest ∧
      (setPhase d p s).cp.rest = s.cp.rest := by
  unfold setPhase
  try dsimp only
  (repeat' split) <;> simp

@[simp] theorem endForced_frame (d : Door) (s : State) :
    (endForced d s).sa = s.sa ∧ (endForced d s).ciu = s.ciu ∧ (endForced d s).shc = s.shc ∧
      (endForced d s).lvu = s.lvu ∧ (endForced d s).kns = s.kns ∧ (endForced d s).bdu = s.bdu ∧
      (endForced d s).sju = s.sju ∧ (endForced d s).pfu = s.pfu ∧ (endForced d s).cp = s.cp ∧
      (endForced d s).prm = s.prm ∧ (endForced d s).loaded = s.loaded ∧ (endForced d s).rst = s.rst ∧
      (endForced d s).pending = s.pending ∧ (endForced d s).pfs.rest = s.pfs.rest := by
  unfold endForced
  try dsimp only
  (repeat' split) <;> simp

@[simp] theorem endProofTimeout_frame (d : Door) (s : State) :
    (endProofTimeout d s).sa = s.sa ∧ (endProofTimeout d s).ciu = s.ciu ∧ (endProofTimeout d s).shc = s.shc ∧
      (endProofTimeout d s).lvu = s.lvu ∧ (endProofTimeout d s).kns = s.kns ∧ (endProofTimeout d s).bdu = s.bdu ∧
      (endProofTimeout d s).sju = s.sju ∧ (endProofTimeout d s).pfu = s.pfu ∧ (endProofTimeout d s).cp = s.cp ∧
      (endProofTimeout d s).prm = s.prm ∧ (endProofTimeout d s).loaded = s.loaded ∧
      (endProofTimeout d s).rst = s.rst ∧ (endProofTimeout d s).pending = s.pending ∧
      (endProofTimeout d s).pfs.rest = s.pfs.rest := by
  unfold endProofTimeout
  try dsimp only
  (repeat' split) <;> simp

@[simp] theorem stopDoorTimers_frame (d : Door) (s : State) :
    (stopDoorTimers d s).sa = s.sa ∧ (stopDoorTimers d s).ciu = s.ciu ∧ (stopDoorTimers d s).shc = s.shc ∧
      (stopDoorTimers d s).lvu = s.lvu ∧ (stopDoorTimers d s).kns = s.kns ∧ (stopDoorTimers d s).bdu = s.bdu ∧
      (stopDoorTimers d s).sju = s.sju ∧ (stopDoorTimers d s).pfu = s.pfu ∧ (stopDoorTimers d s).cp = s.cp ∧
      (stopDoorTimers d s).pfs = s.pfs ∧ (stopDoorTimers d s).prm = s.prm ∧ (stopDoorTimers d s).loaded = s.loaded ∧
      (stopDoorTimers d s).rst = s.rst ∧ (stopDoorTimers d s).pending = s.pending := by
  unfold stopDoorTimers
  try dsimp only
  simp

@[simp] theorem enterShut_frame (d : Door) (s : State) :
    (enterShut d s).sa = s.sa ∧ (enterShut d s).ciu = s.ciu ∧ (enterShut d s).lvu = s.lvu ∧
      (enterShut d s).kns = s.kns ∧ (enterShut d s).bdu = s.bdu ∧ (enterShut d s).sju = s.sju ∧
      (enterShut d s).pfu = s.pfu ∧ (enterShut d s).prm = s.prm ∧ (enterShut d s).loaded = s.loaded ∧
      (enterShut d s).rst = s.rst ∧ (enterShut d s).pending = s.pending ∧ (enterShut d s).pfs.rest = s.pfs.rest ∧
      (enterShut d s).cp.rest = s.cp.rest := by
  unfold enterShut
  try dsimp only
  simp

@[simp] theorem forceOpen_frame (d : Door) (s : State) :
    (forceOpen d s).sa = s.sa ∧ (forceOpen d s).ciu = s.ciu ∧ (forceOpen d s).lvu = s.lvu ∧
      (forceOpen d s).kns = s.kns ∧ (forceOpen d s).bdu = s.bdu ∧ (forceOpen d s).sju = s.sju ∧
      (forceOpen d s).pfu = s.pfu ∧ (forceOpen d s).prm = s.prm ∧ (forceOpen d s).loaded = s.loaded ∧
      (forceOpen d s).rst = s.rst ∧ (forceOpen d s).pending = s.pending ∧ (forceOpen d s).pfs.rest = s.pfs.rest ∧
      (forceOpen d s).cp.rest = s.cp.rest := by
  unfold forceOpen
  try dsimp only
  (repeat' split) <;> simp

@[simp] theorem doorMake_frame (d : Door) (s : State) :
    (doorMake d s).sa = s.sa ∧ (doorMake d s).ciu = s.ciu ∧ (doorMake d s).shc = s.shc ∧
      (doorMake d s).lvu = s.lvu ∧ (doorMake d s).kns = s.kns ∧ (doorMake d s).bdu = s.bdu ∧
      (doorMake d s).sju = s.sju ∧ (doorMake d s).pfu = s.pfu ∧ (doorMake d s).cp = s.cp ∧
      (doorMake d s).pfs = s.pfs ∧ (doorMake d s).prm = s.prm ∧ (doorMake d s).loaded = s.loaded ∧
      (doorMake d s).rst = s.rst ∧ (doorMake d s).pending = s.pending := by
  unfold doorMake
  try dsimp only
  (repeat' split) <;> simp

@[simp] theorem doorBreak_frame (d : Door) (s : State) :
    (doorBreak d s).sa = s.sa ∧ (doorBreak d s).ciu = s.ciu ∧ (doorBreak d s).lvu = s.lvu ∧
      (doorBreak d s).kns = s.kns ∧ (doorBreak d s).bdu = s.bdu ∧ (doorBreak d s).sju = s.sju ∧
      (doorBreak d s).pfu = s.pfu ∧ (doorBreak d s).prm = s.prm ∧ (doorBreak d s).loaded = s.loaded ∧
      (doorBreak d s).rst = s.rst ∧ (doorBreak d s).pending = s.pending ∧ (doorBreak d s).pfs.rest = s.pfs.rest ∧
      (doorBreak d s).cp.rest = s.cp.rest := by
  unfold doorBreak
  try dsimp only
  (repeat' split) <;> simp

@[simp] theorem edgePress_frame (d : Door) (s : State) :
    (edgePress d s).sa = s.sa ∧ (edgePress d s).ciu = s.ciu ∧ (edgePress d s).lvu = s.lvu ∧
      (edgePress d s).kns = s.kns ∧ (edgePress d s).bdu = s.bdu ∧ (edgePress d s).sju = s.sju ∧
      (edgePress d s).pfu = s.pfu ∧ (edgePress d s).prm = s.prm ∧ (edgePress d s).loaded = s.loaded ∧
      (edgePress d s).rst = s.rst ∧ (edgePress d s).pending = s.pending ∧ (edgePress d s).pfs.rest = s.pfs.rest ∧
      (edgePress d s).cp.rest = s.cp.rest := by
  unfold edgePress
  try dsimp only
  (repeat' split) <;> simp

@[simp] theorem edgeRelease_frame (d : Door) (s : State) :
    (edgeRelease d s).sa = s.sa ∧ (edgeRelease d s).ciu = s.ciu ∧ (edgeRelease d s).lvu = s.lvu ∧
      (edgeRelease d s).kns = s.kns ∧ (edgeRelease d s).bdu = s.bdu ∧ (edgeRelease d s).sju = s.sju ∧
      (edgeRelease d s).pfu = s.pfu ∧ (edgeRelease d s).prm = s.prm ∧ (edgeRelease d s).loaded = s.loaded ∧
      (edgeRelease d s).rst = s.rst ∧ (edgeRelease d s).pending = s.pending ∧
      (edgeRelease d s).pfs.rest = s.pfs.rest ∧ (edgeRelease d s).cp.rest = s.cp.rest := by
  unfold edgeRelease
  try dsimp only
  (repeat' split) <;> simp

@[simp] theorem doorSettle_frame (d : Door) (m : Bool) (s : State) :
    (doorSettle d m s).sa = s.sa ∧ (doorSettle d m s).ciu = s.ciu ∧ (doorSettle d m s).lvu = s.lvu ∧
      (doorSettle d m s).kns = s.kns ∧ (doorSettle d m s).bdu = s.bdu ∧ (doorSettle d m s).sju = s.sju ∧
      (doorSettle d m s).pfu = s.pfu ∧ (doorSettle d m s).prm = s.prm ∧ (doorSettle d m s).loaded = s.loaded ∧
      (doorSettle d m s).rst = s.rst ∧ (doorSettle d m s).pending = s.pending ∧
      (doorSettle d m s).pfs.rest = s.pfs.rest ∧ (doorSettle d m s).cp.rest = s.cp.rest := by
  unfold doorSettle
  try dsimp only
  (repeat' split) <;> simp

@[simp] theorem phaseExpiry_frame (d : Door) (s : State) :
    (phaseExpiry d s).sa = s.sa ∧ (phaseExpiry d s).ciu = s.ciu ∧ (phaseExpiry d s).lvu = s.lvu ∧
      (phaseExpiry d s).kns = s.kns ∧ (phaseExpiry d s).bdu = s.bdu ∧ (phaseExpiry d s).sju = s.sju ∧
      (phaseExpiry d s).pfu = s.pfu ∧ (phaseExpiry d s).prm = s.prm ∧ (phaseExpiry d s).loaded = s.loaded ∧
      (phaseExpiry d s).rst = s.rst ∧ (phaseExpiry d s).pending = s.pending ∧
      (phaseExpiry d s).pfs.rest = s.pfs.rest ∧ (phaseExpiry d s).cp.rest = s.cp.rest := by
  unfold phaseExpiry
  try dsimp only
  (repeat' split) <;> simp

@[simp] theorem proofExpiry_frame (d : Door) (s : State) :
    (proofExpiry d s).sa = s.sa ∧ (proofExpiry d s).ciu = s.ciu ∧ (proofExpiry d s).lvu = s.lvu ∧
      (proofExpiry d s).kns = s.kns ∧ (proofExpiry d s).bdu = s.bdu ∧ (proofExpiry d s).sju = s.sju ∧
      (proofExpiry d s).pfu = s.pfu ∧ (proofExpiry d s).prm = s.prm ∧ (proofExpiry d s).loaded = s.loaded ∧
      (proofExpiry d s).rst = s.rst ∧ (proofExpiry d s).pending = s.pending ∧
      (proofExpiry d s).pfs.rest = s.pfs.rest ∧ (proofExpiry d s).cp.rest = s.cp.rest := by
  unfold proofExpiry
  try dsimp only
  (repeat' split) <;> simp

@[simp] theorem sampleClosed_frame (d : Door) (m : Bool) (s : State) :
    (sampleClosed d m s).sa = s.sa ∧ (sampleClosed d m s).ciu = s.ciu ∧ (sampleClosed d m s).lvu = s.lvu ∧
      (sampleClosed d m s).kns = s.kns ∧ (sampleClosed d m s).bdu = s.bdu ∧ (sampleClosed d m s).sju = s.sju ∧
      (sampleClosed d m s).pfu = s.pfu ∧ (sampleClosed d m s).prm = s.prm ∧ (sampleClosed d m s).loaded = s.loaded ∧
      (sampleClosed d m s).rst = s.rst ∧ (sampleClosed d m s).pending = s.pending ∧
      (sampleClosed d m s).pfs.rest = s.pfs.rest ∧ (sampleClosed d m s).cp.rest = s.cp.rest := by
  unfold sampleClosed
  try dsimp only
  (repeat' split) <;> simp

@[simp] theorem sampleEdge_frame (d : Door) (p : Bool) (s : State) :
    (sampleEdge d p s).sa = s.sa ∧ (sampleEdge d p s).ciu = s.ciu ∧ (sampleEdge d p s).lvu = s.lvu ∧
      (sampleEdge d p s).kns = s.kns ∧ (sampleEdge d p s).bdu = s.bdu ∧ (sampleEdge d p s).sju = s.sju ∧
      (sampleEdge d p s).pfu = s.pfu ∧ (sampleEdge d p s).prm = s.prm ∧ (sampleEdge d p s).loaded = s.loaded ∧
      (sampleEdge d p s).rst = s.rst ∧ (sampleEdge d p s).pending = s.pending ∧
      (sampleEdge d p s).pfs.rest = s.pfs.rest ∧ (sampleEdge d p s).cp.rest = s.cp.rest := by
  unfold sampleEdge
  try dsimp only
  (repeat' split) <;> simp

@[simp] theorem sampleDoors_frame (c p : PerDoor Bool) (s : State) :
    (sampleDoors c p s).sa = s.sa ∧ (sampleDoors c p s).ciu = s.ciu ∧ (sampleDoors c p s).lvu = s.lvu ∧
      (sampleDoors c p s).kns = s.kns ∧ (sampleDoors c p s).bdu = s.bdu ∧ (sampleDoors c p s).sju = s.sju ∧
      (sampleDoors c p s).pfu = s.pfu ∧ (sampleDoors c p s).prm = s.prm ∧ (sampleDoors c p s).loaded = s.loaded ∧
      (sampleDoors c p s).rst = s.rst ∧ (sampleDoors c p s).pending = s.pending ∧
      (sampleDoors c p s).pfs.rest = s.pfs.rest ∧ (sampleDoors c p s).cp.rest = s.cp.rest := by
  exact ⟨foldl_keeps State.sa (fun t k => by simp) _ _,
    foldl_keeps State.ciu (fun t k => by simp) _ _,
    foldl_keeps State.lvu (fun t k => by simp) _ _,
    foldl_keeps State.kns (fun t k => by simp) _ _,
    foldl_keeps State.bdu (fun t k => by simp) _ _,
    foldl_keeps State.sju (fun t k => by simp) _ _,
    foldl_keeps State.pfu (fun t k => by simp) _ _,
    foldl_keeps State.prm (fun t k => by simp) _ _,
    foldl_keeps State.loaded (fun t k => by simp) _ _,
    foldl_keeps State.rst (fun t k => by simp) _ _,
    foldl_keeps State.pending (fun t k => by simp) _ _,
    foldl_keeps (fun t => t.pfs.rest) (fun t k => by simp) _ _,
    foldl_keeps (fun t => t.cp.rest) (fun t k => by simp) _ _⟩

@[simp] theorem doorSpeedUpdate_frame (s : State) :
    (doorSpeedUpdate s).sa = s.sa ∧ (doorSpeedUpdate s).ciu = s.ciu ∧ (doorSpeedUpdate s).shc = s.shc ∧
      (doorSpeedUpdate s).lvu = s.lvu ∧ (doorSpeedUpdate s).kns = s.kns ∧ (doorSpeedUpdate s).bdu = s.bdu ∧
      (doorSpeedUpdate s).sju = s.sju ∧ (doorSpeedUpdate s).pfu = s.pfu ∧ (doorSpeedUpdate s).prm = s.prm ∧
      (doorSpeedUpdate s).loaded = s.loaded ∧ (doorSpeedUpdate s).rst = s.rst ∧
      (doorSpeedUpdate s).pending = s.pending ∧ (doorSpeedUpdate s).pfs.rest = s.pfs.rest ∧
      (doorSpeedUpdate s).cp.rest = s.cp.rest := by
  exact ⟨foldl_keeps State.sa (fun t k => by simp) _ _,
    foldl_keeps State.ciu (fun t k => by simp) _ _,
    foldl_keeps State.shc (fun t k => by simp) _ _,
    foldl_keeps State.lvu (fun t k => by simp) _ _,
    foldl_keeps State.kns (fun t k => by simp) _ _,
    foldl_keeps State.bdu (fun t k => by simp) _ _,
    foldl_keeps State.sju (fun t k => by simp) _ _,
    foldl_keeps State.pfu (fun t k => by simp) _ _,
    foldl_keeps State.prm (fun t k => by simp) _ _,
    foldl_keeps State.loaded (fun t k => by simp) _ _,
    foldl_keeps State.rst (fun t k => by simp) _ _,
    foldl_keeps State.pending (fun t k => by simp) _ _,
    foldl_keeps (fun t => t.pfs.rest) (fun t k => by simp) _ _,
    foldl_keeps (fun t => t.cp.rest) (fun t k => by simp) _ _⟩

@[simp] theorem doorLeaveRun_frame (s : State) :
    (doorLeaveRun s).sa = s.sa ∧ (doorLeaveRun s).ciu = s.ciu ∧ (doorLeaveRun s).shc = s.shc ∧
      (doorLeaveRun s).lvu = s.lvu ∧ (doorLeaveRun s).kns = s.kns ∧ (doorLeaveRun s).bdu = s.bdu ∧
      (doorLeaveRun s).sju = s.sju ∧ (doorLeaveRun s).pfu = s.pfu ∧ (doorLeaveRun s).cp = s.cp ∧
      (doorLeaveRun s).pfs = s.pfs ∧ (doorLeaveRun s).prm = s.prm ∧ (doorLeaveRun s).loaded = s.loaded ∧
      (doorLeaveRun s).rst = s.rst ∧ (doorLeaveRun s).pending = s.pending := by
  unfold doorLeaveRun
  try dsimp only
  simp

@[simp] theorem doorEnterRun_frame (s : State) :
    (doorEnterRun s).sa = s.sa ∧ (doorEnterRun s).ciu = s.ciu ∧ (doorEnterRun s).shc = s.shc ∧
      (doorEnterRun s).lvu = s.lvu ∧ (doorEnterRun s).kns = s.kns ∧ (doorEnterRun s).bdu = s.bdu ∧
      (doorEnterRun s).sju = s.sju ∧ (doorEnterRun s).pfu = s.pfu ∧ (doorEnterRun s).cp = s.cp ∧
      (doorEnterRun s).pfs = s.pfs ∧ (doorEnterRun s).prm = s.prm ∧ (doorEnterRun s).loaded = s.loaded ∧
      (doorEnterRun s).rst = s.rst ∧ (doorEnterRun s).pending = s.pending := by
  unfold doorEnterRun
  try dsimp only
  simp

@[simp] theorem updateRatio_frame (x : Axle) (s : State) :
    (updateRatio x s).sa = s.sa ∧ (updateRatio x s).ciu = s.ciu ∧ (updateRatio x s).shc = s.shc ∧
      (updateRatio x s).dcu = s.dcu ∧ (updateRatio x s).lvu = s.lvu ∧ (updateRatio x s).kns = s.kns ∧
      (updateRatio x s).sju = s.sju ∧ (updateRatio x s).pfu = s.pfu ∧ (updateRatio x s).cp = s.cp ∧
      (updateRatio x s).pfs = s.pfs ∧ (updateRatio x s).prm = s.prm ∧ (updateRatio x s).loaded = s.loaded ∧
      (updateRatio x s).rst = s.rst ∧ (updateRatio x s).pending = s.pending := by
  unfold updateRatio
  try dsimp only
  (repeat' split) <;> simp

@[simp] theorem updateRatios_frame (s : State) :
    (updateRatios s).sa = s.sa ∧ (updateRatios s).ciu = s.ciu ∧ (updateRatios s).shc = s.shc ∧
      (updateRatios s).dcu = s.dcu ∧ (updateRatios s).lvu = s.lvu ∧ (updateRatios s).kns = s.kns ∧
      (updateRatios s).sju = s.sju ∧ (updateRatios s).pfu = s.pfu ∧ (updateRatios s).cp = s.cp ∧
      (updateRatios s).pfs = s.pfs ∧ (updateRatios s).prm = s.prm ∧ (updateRatios s).loaded = s.loaded ∧
      (updateRatios s).rst = s.rst ∧ (updateRatios s).pending = s.pending := by
  unfold updateRatios
  try dsimp only
  simp

@[simp] theorem setDemand_frame (src : DemandSource) (d : Demand) (s : State) :
    (setDemand src d s).sa = s.sa ∧ (setDemand src d s).ciu = s.ciu ∧ (setDemand src d s).shc = s.shc ∧
      (setDemand src d s).dcu = s.dcu ∧ (setDemand src d s).lvu = s.lvu ∧ (setDemand src d s).kns = s.kns ∧
      (setDemand src d s).sju = s.sju ∧ (setDemand src d s).pfu = s.pfu ∧ (setDemand src d s).cp = s.cp ∧
      (setDemand src d s).pfs = s.pfs ∧ (setDemand src d s).prm = s.prm ∧ (setDemand src d s).loaded = s.loaded ∧
      (setDemand src d s).rst = s.rst ∧ (setDemand src d s).pending = s.pending := by
  unfold setDemand
  try dsimp only
  (repeat' split) <;> simp

@[simp] theorem demandExpiry_frame (src : DemandSource) (s : State) :
    (demandExpiry src s).sa = s.sa ∧ (demandExpiry src s).ciu = s.ciu ∧ (demandExpiry src s).shc = s.shc ∧
      (demandExpiry src s).dcu = s.dcu ∧ (demandExpiry src s).lvu = s.lvu ∧ (demandExpiry src s).kns = s.kns ∧
      (demandExpiry src s).sju = s.sju ∧ (demandExpiry src s).pfu = s.pfu ∧ (demandExpiry src s).cp = s.cp ∧
      (demandExpiry src s).pfs = s.pfs ∧ (demandExpiry src s).prm = s.prm ∧ (demandExpiry src s).loaded = s.loaded ∧
      (demandExpiry src s).rst = s.rst ∧ (demandExpiry src s).pending = s.pending := by
  unfold demandExpiry
  try dsimp only
  (repeat' split) <;> simp

@[simp] theorem takeBrakeInputs_frame (s : State) :
    (takeBrakeInputs s).sa = s.sa ∧ (takeBrakeInputs s).ciu = s.ciu ∧ (takeBrakeInputs s).shc = s.shc ∧
      (takeBrakeInputs s).dcu = s.dcu ∧ (takeBrakeInputs s).lvu = s.lvu ∧ (takeBrakeInputs s).kns = s.kns ∧
      (takeBrakeInputs s).sju = s.sju ∧ (takeBrakeInputs s).pfu = s.pfu ∧ (takeBrakeInputs s).cp = s.cp ∧
      (takeBrakeInputs s).pfs = s.pfs ∧ (takeBrakeInputs s).prm = s.prm ∧ (takeBrakeInputs s).loaded = s.loaded ∧
      (takeBrakeInputs s).rst = s.rst ∧ (takeBrakeInputs s).pending = s.pending := by
  unfold takeBrakeInputs
  try dsimp only
  simp

@[simp] theorem setDeviation_frame (x : Axle) (t : Option Nat) (f : Bool) (s : State) :
    (setDeviation x t f s).sa = s.sa ∧ (setDeviation x t f s).ciu = s.ciu ∧ (setDeviation x t f s).shc = s.shc ∧
      (setDeviation x t f s).dcu = s.dcu ∧ (setDeviation x t f s).lvu = s.lvu ∧ (setDeviation x t f s).kns = s.kns ∧
      (setDeviation x t f s).sju = s.sju ∧ (setDeviation x t f s).pfu = s.pfu ∧ (setDeviation x t f s).cp = s.cp ∧
      (setDeviation x t f s).pfs = s.pfs ∧ (setDeviation x t f s).prm = s.prm ∧
      (setDeviation x t f s).loaded = s.loaded ∧ (setDeviation x t f s).rst = s.rst ∧
      (setDeviation x t f s).pending = s.pending := by
  unfold setDeviation
  try dsimp only
  simp

@[simp] theorem endDeviation_frame (x : Axle) (s : State) :
    (endDeviation x s).sa = s.sa ∧ (endDeviation x s).ciu = s.ciu ∧ (endDeviation x s).shc = s.shc ∧
      (endDeviation x s).dcu = s.dcu ∧ (endDeviation x s).lvu = s.lvu ∧ (endDeviation x s).kns = s.kns ∧
      (endDeviation x s).sju = s.sju ∧ (endDeviation x s).pfu = s.pfu ∧ (endDeviation x s).cp = s.cp ∧
      (endDeviation x s).prm = s.prm ∧ (endDeviation x s).loaded = s.loaded ∧ (endDeviation x s).rst = s.rst ∧
      (endDeviation x s).pending = s.pending ∧ (endDeviation x s).pfs.rest = s.pfs.rest := by
  unfold endDeviation
  try dsimp only
  (repeat' split) <;> simp

@[simp] theorem supervise_frame (w : BrakeInputs) (x : Axle) (s : State) :
    (supervise w x s).sa = s.sa ∧ (supervise w x s).ciu = s.ciu ∧ (supervise w x s).shc = s.shc ∧
      (supervise w x s).dcu = s.dcu ∧ (supervise w x s).lvu = s.lvu ∧ (supervise w x s).kns = s.kns ∧
      (supervise w x s).sju = s.sju ∧ (supervise w x s).pfu = s.pfu ∧ (supervise w x s).cp = s.cp ∧
      (supervise w x s).prm = s.prm ∧ (supervise w x s).loaded = s.loaded ∧ (supervise w x s).rst = s.rst ∧
      (supervise w x s).pending = s.pending ∧ (supervise w x s).pfs.rest = s.pfs.rest := by
  unfold supervise
  try dsimp only
  (repeat' split) <;> simp

@[simp] theorem deviationExpiry_frame (x : Axle) (s : State) :
    (deviationExpiry x s).sa = s.sa ∧ (deviationExpiry x s).ciu = s.ciu ∧ (deviationExpiry x s).shc = s.shc ∧
      (deviationExpiry x s).dcu = s.dcu ∧ (deviationExpiry x s).lvu = s.lvu ∧ (deviationExpiry x s).kns = s.kns ∧
      (deviationExpiry x s).sju = s.sju ∧ (deviationExpiry x s).pfu = s.pfu ∧ (deviationExpiry x s).prm = s.prm ∧
      (deviationExpiry x s).loaded = s.loaded ∧ (deviationExpiry x s).rst = s.rst ∧
      (deviationExpiry x s).pending = s.pending ∧ (deviationExpiry x s).pfs.rest = s.pfs.rest ∧
      (deviationExpiry x s).cp.rest = s.cp.rest := by
  unfold deviationExpiry
  try dsimp only
  (repeat' split) <;> simp

@[simp] theorem modulatorEnd_frame (s : State) :
    (modulatorEnd s).sa = s.sa ∧ (modulatorEnd s).ciu = s.ciu ∧ (modulatorEnd s).shc = s.shc ∧
      (modulatorEnd s).dcu = s.dcu ∧ (modulatorEnd s).lvu = s.lvu ∧ (modulatorEnd s).kns = s.kns ∧
      (modulatorEnd s).sju = s.sju ∧ (modulatorEnd s).cp = s.cp ∧ (modulatorEnd s).prm = s.prm ∧
      (modulatorEnd s).loaded = s.loaded ∧ (modulatorEnd s).rst = s.rst ∧ (modulatorEnd s).pending = s.pending ∧
      (modulatorEnd s).pfs.rest = s.pfs.rest := by
  unfold modulatorEnd
  try dsimp only
  (repeat' split) <;> simp

@[simp] theorem reabandon_frame (x : Axle) (s : State) :
    (reabandon x s).sa = s.sa ∧ (reabandon x s).ciu = s.ciu ∧ (reabandon x s).dcu = s.dcu ∧
      (reabandon x s).lvu = s.lvu ∧ (reabandon x s).kns = s.kns ∧ (reabandon x s).sju = s.sju ∧
      (reabandon x s).pfu = s.pfu ∧ (reabandon x s).prm = s.prm ∧ (reabandon x s).loaded = s.loaded ∧
      (reabandon x s).rst = s.rst ∧ (reabandon x s).pending = s.pending ∧ (reabandon x s).pfs.rest = s.pfs.rest ∧
      (reabandon x s).cp.rest = s.cp.rest := by
  unfold reabandon
  try dsimp only
  (repeat' split) <;> simp

@[simp] theorem forEach_reabandon_frame (test : Axle → Bool) (xs : List Axle) (s : State) :
    (forEach xs test (reabandon) s).sa = s.sa ∧ (forEach xs test (reabandon) s).ciu = s.ciu ∧
      (forEach xs test (reabandon) s).dcu = s.dcu ∧ (forEach xs test (reabandon) s).lvu = s.lvu ∧
      (forEach xs test (reabandon) s).kns = s.kns ∧ (forEach xs test (reabandon) s).sju = s.sju ∧
      (forEach xs test (reabandon) s).pfu = s.pfu ∧ (forEach xs test (reabandon) s).prm = s.prm ∧
      (forEach xs test (reabandon) s).loaded = s.loaded ∧ (forEach xs test (reabandon) s).rst = s.rst ∧
      (forEach xs test (reabandon) s).pending = s.pending ∧ (forEach xs test (reabandon) s).pfs.rest = s.pfs.rest ∧
      (forEach xs test (reabandon) s).cp.rest = s.cp.rest := by
  exact ⟨forEach_keeps State.sa (fun _ _ => by simp) test xs s,
    forEach_keeps State.ciu (fun _ _ => by simp) test xs s,
    forEach_keeps State.dcu (fun _ _ => by simp) test xs s,
    forEach_keeps State.lvu (fun _ _ => by simp) test xs s,
    forEach_keeps State.kns (fun _ _ => by simp) test xs s,
    forEach_keeps State.sju (fun _ _ => by simp) test xs s,
    forEach_keeps State.pfu (fun _ _ => by simp) test xs s,
    forEach_keeps State.prm (fun _ _ => by simp) test xs s,
    forEach_keeps State.loaded (fun _ _ => by simp) test xs s,
    forEach_keeps State.rst (fun _ _ => by simp) test xs s,
    forEach_keeps State.pending (fun _ _ => by simp) test xs s,
    forEach_keeps (fun t => t.pfs.rest) (fun _ _ => by simp) test xs s,
    forEach_keeps (fun t => t.cp.rest) (fun _ _ => by simp) test xs s⟩

@[simp] theorem reabandonTouched_frame (s0 : State) (s : State) :
    (reabandonTouched s0 s).sa = s.sa ∧ (reabandonTouched s0 s).ciu = s.ciu ∧ (reabandonTouched s0 s).dcu = s.dcu ∧
      (reabandonTouched s0 s).lvu = s.lvu ∧ (reabandonTouched s0 s).kns = s.kns ∧
      (reabandonTouched s0 s).sju = s.sju ∧ (reabandonTouched s0 s).pfu = s.pfu ∧
      (reabandonTouched s0 s).prm = s.prm ∧ (reabandonTouched s0 s).loaded = s.loaded ∧
      (reabandonTouched s0 s).rst = s.rst ∧ (reabandonTouched s0 s).pending = s.pending ∧
      (reabandonTouched s0 s).pfs.rest = s.pfs.rest ∧ (reabandonTouched s0 s).cp.rest = s.cp.rest := by
  unfold reabandonTouched
  try dsimp only
  simp

@[simp] theorem brakeSafeEntry_frame (s : State) :
    (brakeSafeEntry s).sa = s.sa ∧ (brakeSafeEntry s).ciu = s.ciu ∧ (brakeSafeEntry s).shc = s.shc ∧
      (brakeSafeEntry s).dcu = s.dcu ∧ (brakeSafeEntry s).lvu = s.lvu ∧ (brakeSafeEntry s).kns = s.kns ∧
      (brakeSafeEntry s).sju = s.sju ∧ (brakeSafeEntry s).pfu = s.pfu ∧ (brakeSafeEntry s).cp = s.cp ∧
      (brakeSafeEntry s).prm = s.prm ∧ (brakeSafeEntry s).loaded = s.loaded ∧ (brakeSafeEntry s).rst = s.rst ∧
      (brakeSafeEntry s).pending = s.pending ∧ (brakeSafeEntry s).pfs.rest = s.pfs.rest := by
  unfold brakeSafeEntry
  try dsimp only
  simp

@[simp] theorem setMode_frame (m : Mode) (s : State) :
    (setMode m s).sa = s.sa ∧ (setMode m s).ciu = s.ciu ∧ (setMode m s).shc = s.shc ∧ (setMode m s).dcu = s.dcu ∧
      (setMode m s).lvu = s.lvu ∧ (setMode m s).kns = s.kns ∧ (setMode m s).bdu = s.bdu ∧ (setMode m s).sju = s.sju ∧
      (setMode m s).pfu = s.pfu ∧ (setMode m s).prm = s.prm ∧ (setMode m s).loaded = s.loaded ∧
      (setMode m s).rst = s.rst ∧ (setMode m s).pending = s.pending ∧ (setMode m s).cp.rest = s.cp.rest := by
  unfold setMode
  try dsimp only
  (repeat' split) <;> simp

@[simp] theorem endStart_frame (s : State) :
    (endStart s).sa = s.sa ∧ (endStart s).ciu = s.ciu ∧ (endStart s).shc = s.shc ∧ (endStart s).lvu = s.lvu ∧
      (endStart s).kns = s.kns ∧ (endStart s).bdu = s.bdu ∧ (endStart s).sju = s.sju ∧ (endStart s).pfu = s.pfu ∧
      (endStart s).prm = s.prm ∧ (endStart s).loaded = s.loaded ∧ (endStart s).rst = s.rst ∧
      (endStart s).pending = s.pending ∧ (endStart s).cp.rest = s.cp.rest := by
  unfold endStart
  dsimp only
  split
  · refine ⟨(foldl_keeps State.sa (fun t k => by simp) _ _).trans (by simp), (foldl_keeps State.ciu (fun t k => by simp) _ _).trans (by simp), (foldl_keeps State.shc (fun t k => by simp) _ _).trans (by simp), (foldl_keeps State.lvu (fun t k => by simp) _ _).trans (by simp), (foldl_keeps State.kns (fun t k => by simp) _ _).trans (by simp), (foldl_keeps State.bdu (fun t k => by simp) _ _).trans (by simp), (foldl_keeps State.sju (fun t k => by simp) _ _).trans (by simp), (foldl_keeps State.pfu (fun t k => by simp) _ _).trans (by simp), (foldl_keeps State.prm (fun t k => by simp) _ _).trans (by simp), (foldl_keeps State.loaded (fun t k => by simp) _ _).trans (by simp), (foldl_keeps State.rst (fun t k => by simp) _ _).trans (by simp), (foldl_keeps State.pending (fun t k => by simp) _ _).trans (by simp), (foldl_keeps (fun t => t.cp.rest) (fun t k => by simp) _ _).trans (by simp)⟩
  · simp

@[simp] theorem startUpExpiry_frame (s : State) :
    (startUpExpiry s).sa = s.sa ∧ (startUpExpiry s).ciu = s.ciu ∧ (startUpExpiry s).shc = s.shc ∧
      (startUpExpiry s).lvu = s.lvu ∧ (startUpExpiry s).kns = s.kns ∧ (startUpExpiry s).bdu = s.bdu ∧
      (startUpExpiry s).sju = s.sju ∧ (startUpExpiry s).pfu = s.pfu ∧ (startUpExpiry s).prm = s.prm ∧
      (startUpExpiry s).loaded = s.loaded ∧ (startUpExpiry s).rst = s.rst ∧ (startUpExpiry s).pending = s.pending ∧
      (startUpExpiry s).cp.rest = s.cp.rest := by
  unfold startUpExpiry
  try dsimp only
  (repeat' split) <;> simp

@[simp] theorem State.withImage_frame (im : Image) (s : State) :
    (s.withImage im).ciu = s.ciu ∧ (s.withImage im).shc = s.shc ∧ (s.withImage im).dcu = s.dcu ∧
      (s.withImage im).lvu = s.lvu ∧ (s.withImage im).kns = s.kns ∧ (s.withImage im).bdu = s.bdu ∧
      (s.withImage im).sju = s.sju ∧ (s.withImage im).pfu = s.pfu ∧ (s.withImage im).cp = s.cp ∧
      (s.withImage im).pfs = s.pfs ∧ (s.withImage im).prm = s.prm ∧ (s.withImage im).loaded = s.loaded ∧
      (s.withImage im).rst = s.rst ∧ (s.withImage im).pending = s.pending := by
  simp [State.withImage]

@[simp] theorem endLost_frame (b : Nat) (g : List Bool) (s : State) :
    (endLost b g s).sa = s.sa ∧ (endLost b g s).ciu = s.ciu ∧ (endLost b g s).shc = s.shc ∧
      (endLost b g s).dcu = s.dcu ∧ (endLost b g s).lvu = s.lvu ∧ (endLost b g s).kns = s.kns ∧
      (endLost b g s).bdu = s.bdu ∧ (endLost b g s).sju = s.sju ∧ (endLost b g s).pfu = s.pfu ∧
      (endLost b g s).cp = s.cp ∧ (endLost b g s).prm = s.prm ∧ (endLost b g s).loaded = s.loaded ∧
      (endLost b g s).rst = s.rst ∧ (endLost b g s).pending = s.pending ∧ (endLost b g s).pfs.rest = s.pfs.rest := by
  exact ⟨foldl_keeps State.sa (fun t k => by simp) _ _,
    foldl_keeps State.ciu (fun t k => by simp) _ _,
    foldl_keeps State.shc (fun t k => by simp) _ _,
    foldl_keeps State.dcu (fun t k => by simp) _ _,
    foldl_keeps State.lvu (fun t k => by simp) _ _,
    foldl_keeps State.kns (fun t k => by simp) _ _,
    foldl_keeps State.bdu (fun t k => by simp) _ _,
    foldl_keeps State.sju (fun t k => by simp) _ _,
    foldl_keeps State.pfu (fun t k => by simp) _ _,
    foldl_keeps State.cp (fun t k => by simp) _ _,
    foldl_keeps State.prm (fun t k => by simp) _ _,
    foldl_keeps State.loaded (fun t k => by simp) _ _,
    foldl_keeps State.rst (fun t k => by simp) _ _,
    foldl_keeps State.pending (fun t k => by simp) _ _,
    foldl_keeps (fun t => t.pfs.rest) (fun t k => by simp) _ _⟩

@[simp] theorem markSampled_frame (b : Nat) (g : List Bool) (s : State) :
    (markSampled b g s).ciu = s.ciu ∧ (markSampled b g s).shc = s.shc ∧ (markSampled b g s).dcu = s.dcu ∧
      (markSampled b g s).lvu = s.lvu ∧ (markSampled b g s).kns = s.kns ∧ (markSampled b g s).bdu = s.bdu ∧
      (markSampled b g s).sju = s.sju ∧ (markSampled b g s).pfu = s.pfu ∧ (markSampled b g s).cp = s.cp ∧
      (markSampled b g s).pfs = s.pfs ∧ (markSampled b g s).prm = s.prm ∧ (markSampled b g s).loaded = s.loaded ∧
      (markSampled b g s).rst = s.rst ∧ (markSampled b g s).pending = s.pending := by
  unfold markSampled
  try dsimp only
  simp

@[simp] theorem reportLost_frame (id : Nat) (s : State) :
    (reportLost id s).sa = s.sa ∧ (reportLost id s).ciu = s.ciu ∧
      (reportLost id s).shc = s.shc ∧ (reportLost id s).dcu = s.dcu ∧
      (reportLost id s).lvu = s.lvu ∧ (reportLost id s).kns = s.kns ∧
      (reportLost id s).bdu = s.bdu ∧ (reportLost id s).sju = s.sju ∧
      (reportLost id s).pfu = s.pfu ∧ (reportLost id s).prm = s.prm ∧
      (reportLost id s).loaded = s.loaded ∧ (reportLost id s).rst = s.rst ∧
      (reportLost id s).pending = s.pending ∧ (reportLost id s).pfs.rest = s.pfs.rest ∧
      (reportLost id s).cp.rest = s.cp.rest := by
  unfold reportLost
  try dsimp only
  (repeat' split) <;> simp

@[simp] theorem raiseLost_frame (b : Nat) (o n : List Rec) (s : State) :
    (raiseLost b o n s).sa = s.sa ∧ (raiseLost b o n s).ciu = s.ciu ∧ (raiseLost b o n s).shc = s.shc ∧
      (raiseLost b o n s).dcu = s.dcu ∧ (raiseLost b o n s).lvu = s.lvu ∧ (raiseLost b o n s).kns = s.kns ∧
      (raiseLost b o n s).bdu = s.bdu ∧ (raiseLost b o n s).sju = s.sju ∧ (raiseLost b o n s).pfu = s.pfu ∧
      (raiseLost b o n s).prm = s.prm ∧ (raiseLost b o n s).loaded = s.loaded ∧ (raiseLost b o n s).rst = s.rst ∧
      (raiseLost b o n s).pending = s.pending ∧ (raiseLost b o n s).pfs.rest = s.pfs.rest ∧
      (raiseLost b o n s).cp.rest = s.cp.rest := by
  exact ⟨foldl_keeps State.sa (fun t k => by simp) _ _,
    foldl_keeps State.ciu (fun t k => by simp) _ _,
    foldl_keeps State.shc (fun t k => by simp) _ _,
    foldl_keeps State.dcu (fun t k => by simp) _ _,
    foldl_keeps State.lvu (fun t k => by simp) _ _,
    foldl_keeps State.kns (fun t k => by simp) _ _,
    foldl_keeps State.bdu (fun t k => by simp) _ _,
    foldl_keeps State.sju (fun t k => by simp) _ _,
    foldl_keeps State.pfu (fun t k => by simp) _ _,
    foldl_keeps State.prm (fun t k => by simp) _ _,
    foldl_keeps State.loaded (fun t k => by simp) _ _,
    foldl_keeps State.rst (fun t k => by simp) _ _,
    foldl_keeps State.pending (fun t k => by simp) _ _,
    foldl_keeps (fun t => t.pfs.rest) (fun t k => by simp) _ _,
    foldl_keeps (fun t => t.cp.rest) (fun t k => by simp) _ _⟩

@[simp] theorem followHeights_frame (s : State) :
    (followHeights s).ciu = s.ciu ∧ (followHeights s).shc = s.shc ∧ (followHeights s).dcu = s.dcu ∧
      (followHeights s).lvu = s.lvu ∧ (followHeights s).kns = s.kns ∧ (followHeights s).bdu = s.bdu ∧
      (followHeights s).sju = s.sju ∧ (followHeights s).pfu = s.pfu ∧ (followHeights s).prm = s.prm ∧
      (followHeights s).loaded = s.loaded ∧ (followHeights s).rst = s.rst ∧ (followHeights s).pending = s.pending ∧
      (followHeights s).pfs.rest = s.pfs.rest ∧ (followHeights s).cp.rest = s.cp.rest := by
  unfold followHeights
  try dsimp only
  simp

@[simp] theorem followBellows_frame (s : State) :
    (followBellows s).ciu = s.ciu ∧ (followBellows s).shc = s.shc ∧ (followBellows s).dcu = s.dcu ∧
      (followBellows s).lvu = s.lvu ∧ (followBellows s).kns = s.kns ∧ (followBellows s).bdu = s.bdu ∧
      (followBellows s).sju = s.sju ∧ (followBellows s).pfu = s.pfu ∧ (followBellows s).prm = s.prm ∧
      (followBellows s).loaded = s.loaded ∧ (followBellows s).rst = s.rst ∧ (followBellows s).pending = s.pending ∧
      (followBellows s).pfs.rest = s.pfs.rest ∧ (followBellows s).cp.rest = s.cp.rest := by
  unfold followBellows
  try dsimp only
  simp

@[simp] theorem reportDerived_frame (id : Nat) (o n : Rec) (s : State) :
    (reportDerived id o n s).sa = s.sa ∧ (reportDerived id o n s).ciu = s.ciu ∧
      (reportDerived id o n s).shc = s.shc ∧ (reportDerived id o n s).dcu = s.dcu ∧
      (reportDerived id o n s).lvu = s.lvu ∧ (reportDerived id o n s).kns = s.kns ∧
      (reportDerived id o n s).bdu = s.bdu ∧ (reportDerived id o n s).sju = s.sju ∧
      (reportDerived id o n s).pfu = s.pfu ∧ (reportDerived id o n s).prm = s.prm ∧
      (reportDerived id o n s).loaded = s.loaded ∧ (reportDerived id o n s).rst = s.rst ∧
      (reportDerived id o n s).pending = s.pending ∧ (reportDerived id o n s).pfs.rest = s.pfs.rest ∧
      (reportDerived id o n s).cp.rest = s.cp.rest := by
  unfold reportDerived
  try dsimp only
  (repeat' split) <;> simp

@[simp] theorem deriveLoad_frame (x : Axle) (s : State) :
    (deriveLoad x s).ciu = s.ciu ∧ (deriveLoad x s).shc = s.shc ∧ (deriveLoad x s).dcu = s.dcu ∧
      (deriveLoad x s).lvu = s.lvu ∧ (deriveLoad x s).kns = s.kns ∧ (deriveLoad x s).bdu = s.bdu ∧
      (deriveLoad x s).sju = s.sju ∧ (deriveLoad x s).pfu = s.pfu ∧ (deriveLoad x s).prm = s.prm ∧
      (deriveLoad x s).loaded = s.loaded ∧ (deriveLoad x s).rst = s.rst ∧ (deriveLoad x s).pending = s.pending ∧
      (deriveLoad x s).pfs.rest = s.pfs.rest ∧ (deriveLoad x s).cp.rest = s.cp.rest := by
  unfold deriveLoad
  try dsimp only
  simp

@[simp] theorem deriveLoads_frame (s : State) :
    (deriveLoads s).ciu = s.ciu ∧ (deriveLoads s).shc = s.shc ∧ (deriveLoads s).dcu = s.dcu ∧
      (deriveLoads s).lvu = s.lvu ∧ (deriveLoads s).kns = s.kns ∧ (deriveLoads s).bdu = s.bdu ∧
      (deriveLoads s).sju = s.sju ∧ (deriveLoads s).pfu = s.pfu ∧ (deriveLoads s).prm = s.prm ∧
      (deriveLoads s).loaded = s.loaded ∧ (deriveLoads s).rst = s.rst ∧ (deriveLoads s).pending = s.pending ∧
      (deriveLoads s).pfs.rest = s.pfs.rest ∧ (deriveLoads s).cp.rest = s.cp.rest := by
  unfold deriveLoads
  try dsimp only
  simp

@[simp] theorem deriveTwist_frame (s : State) :
    (deriveTwist s).ciu = s.ciu ∧ (deriveTwist s).shc = s.shc ∧ (deriveTwist s).dcu = s.dcu ∧
      (deriveTwist s).lvu = s.lvu ∧ (deriveTwist s).kns = s.kns ∧ (deriveTwist s).bdu = s.bdu ∧
      (deriveTwist s).sju = s.sju ∧ (deriveTwist s).pfu = s.pfu ∧ (deriveTwist s).prm = s.prm ∧
      (deriveTwist s).loaded = s.loaded ∧ (deriveTwist s).rst = s.rst ∧ (deriveTwist s).pending = s.pending ∧
      (deriveTwist s).pfs.rest = s.pfs.rest ∧ (deriveTwist s).cp.rest = s.cp.rest := by
  unfold deriveTwist
  try dsimp only
  simp

@[simp] theorem deriveVspd_frame (s : State) :
    (deriveVspd s).ciu = s.ciu ∧ (deriveVspd s).shc = s.shc ∧ (deriveVspd s).dcu = s.dcu ∧
      (deriveVspd s).lvu = s.lvu ∧ (deriveVspd s).kns = s.kns ∧ (deriveVspd s).bdu = s.bdu ∧
      (deriveVspd s).sju = s.sju ∧ (deriveVspd s).pfu = s.pfu ∧ (deriveVspd s).prm = s.prm ∧
      (deriveVspd s).loaded = s.loaded ∧ (deriveVspd s).rst = s.rst ∧ (deriveVspd s).pending = s.pending ∧
      (deriveVspd s).pfs.rest = s.pfs.rest ∧ (deriveVspd s).cp.rest = s.cp.rest := by
  unfold deriveVspd
  try dsimp only
  simp

@[simp] theorem deriveArtRate_frame (s : State) :
    (deriveArtRate s).ciu = s.ciu ∧ (deriveArtRate s).shc = s.shc ∧ (deriveArtRate s).dcu = s.dcu ∧
      (deriveArtRate s).lvu = s.lvu ∧ (deriveArtRate s).kns = s.kns ∧ (deriveArtRate s).bdu = s.bdu ∧
      (deriveArtRate s).sju = s.sju ∧ (deriveArtRate s).pfu = s.pfu ∧ (deriveArtRate s).prm = s.prm ∧
      (deriveArtRate s).loaded = s.loaded ∧ (deriveArtRate s).rst = s.rst ∧ (deriveArtRate s).pending = s.pending ∧
      (deriveArtRate s).pfs.rest = s.pfs.rest ∧ (deriveArtRate s).cp.rest = s.cp.rest := by
  unfold deriveArtRate
  try dsimp only
  simp

@[simp] theorem forEach_updateRatio_frame (test : Axle → Bool) (xs : List Axle) (s : State) :
    (forEach xs test (updateRatio) s).sa = s.sa ∧ (forEach xs test (updateRatio) s).ciu = s.ciu ∧
      (forEach xs test (updateRatio) s).shc = s.shc ∧ (forEach xs test (updateRatio) s).dcu = s.dcu ∧
      (forEach xs test (updateRatio) s).lvu = s.lvu ∧ (forEach xs test (updateRatio) s).kns = s.kns ∧
      (forEach xs test (updateRatio) s).sju = s.sju ∧ (forEach xs test (updateRatio) s).pfu = s.pfu ∧
      (forEach xs test (updateRatio) s).cp = s.cp ∧ (forEach xs test (updateRatio) s).pfs = s.pfs ∧
      (forEach xs test (updateRatio) s).prm = s.prm ∧ (forEach xs test (updateRatio) s).loaded = s.loaded ∧
      (forEach xs test (updateRatio) s).rst = s.rst ∧ (forEach xs test (updateRatio) s).pending = s.pending := by
  exact ⟨forEach_keeps State.sa (fun _ _ => by simp) test xs s,
    forEach_keeps State.ciu (fun _ _ => by simp) test xs s,
    forEach_keeps State.shc (fun _ _ => by simp) test xs s,
    forEach_keeps State.dcu (fun _ _ => by simp) test xs s,
    forEach_keeps State.lvu (fun _ _ => by simp) test xs s,
    forEach_keeps State.kns (fun _ _ => by simp) test xs s,
    forEach_keeps State.sju (fun _ _ => by simp) test xs s,
    forEach_keeps State.pfu (fun _ _ => by simp) test xs s,
    forEach_keeps State.cp (fun _ _ => by simp) test xs s,
    forEach_keeps State.pfs (fun _ _ => by simp) test xs s,
    forEach_keeps State.prm (fun _ _ => by simp) test xs s,
    forEach_keeps State.loaded (fun _ _ => by simp) test xs s,
    forEach_keeps State.rst (fun _ _ => by simp) test xs s,
    forEach_keeps State.pending (fun _ _ => by simp) test xs s⟩

@[simp] theorem forEach_deriveLoad_frame (test : Axle → Bool) (xs : List Axle) (s : State) :
    (forEach xs test (deriveLoad) s).ciu = s.ciu ∧ (forEach xs test (deriveLoad) s).shc = s.shc ∧
      (forEach xs test (deriveLoad) s).dcu = s.dcu ∧ (forEach xs test (deriveLoad) s).lvu = s.lvu ∧
      (forEach xs test (deriveLoad) s).kns = s.kns ∧ (forEach xs test (deriveLoad) s).bdu = s.bdu ∧
      (forEach xs test (deriveLoad) s).sju = s.sju ∧ (forEach xs test (deriveLoad) s).pfu = s.pfu ∧
      (forEach xs test (deriveLoad) s).prm = s.prm ∧ (forEach xs test (deriveLoad) s).loaded = s.loaded ∧
      (forEach xs test (deriveLoad) s).rst = s.rst ∧ (forEach xs test (deriveLoad) s).pending = s.pending ∧
      (forEach xs test (deriveLoad) s).pfs.rest = s.pfs.rest ∧ (forEach xs test (deriveLoad) s).cp.rest = s.cp.rest := by
  exact ⟨forEach_keeps State.ciu (fun _ _ => by simp) test xs s,
    forEach_keeps State.shc (fun _ _ => by simp) test xs s,
    forEach_keeps State.dcu (fun _ _ => by simp) test xs s,
    forEach_keeps State.lvu (fun _ _ => by simp) test xs s,
    forEach_keeps State.kns (fun _ _ => by simp) test xs s,
    forEach_keeps State.bdu (fun _ _ => by simp) test xs s,
    forEach_keeps State.sju (fun _ _ => by simp) test xs s,
    forEach_keeps State.pfu (fun _ _ => by simp) test xs s,
    forEach_keeps State.prm (fun _ _ => by simp) test xs s,
    forEach_keeps State.loaded (fun _ _ => by simp) test xs s,
    forEach_keeps State.rst (fun _ _ => by simp) test xs s,
    forEach_keeps State.pending (fun _ _ => by simp) test xs s,
    forEach_keeps (fun t => t.pfs.rest) (fun _ _ => by simp) test xs s,
    forEach_keeps (fun t => t.cp.rest) (fun _ _ => by simp) test xs s⟩

@[simp] theorem formLatches_frame (o : Image) (s : State) :
    (formLatches o s).sa = s.sa ∧ (formLatches o s).shc = s.shc ∧ (formLatches o s).dcu = s.dcu ∧
      (formLatches o s).lvu = s.lvu ∧ (formLatches o s).kns = s.kns ∧ (formLatches o s).bdu = s.bdu ∧
      (formLatches o s).sju = s.sju ∧ (formLatches o s).pfu = s.pfu ∧ (formLatches o s).cp = s.cp ∧
      (formLatches o s).pfs = s.pfs ∧ (formLatches o s).prm = s.prm ∧ (formLatches o s).loaded = s.loaded ∧
      (formLatches o s).rst = s.rst ∧ (formLatches o s).pending = s.pending := by
  unfold formLatches
  try dsimp only
  simp

@[simp] theorem publish_frame (s0 : State) (s : State) :
    (publish s0 s).sa = s.sa ∧ (publish s0 s).lvu = s.lvu ∧ (publish s0 s).kns = s.kns ∧
      (publish s0 s).sju = s.sju ∧ (publish s0 s).pfu = s.pfu ∧ (publish s0 s).prm = s.prm ∧
      (publish s0 s).loaded = s.loaded ∧ (publish s0 s).rst = s.rst ∧ (publish s0 s).pending = s.pending ∧
      (publish s0 s).cp.rest = s.cp.rest := by
  unfold publish
  try dsimp only
  (repeat' split) <;> simp

@[simp] theorem twistAfter_frame (s0 : State) (s : State) :
    (twistAfter s0 s).ciu = s.ciu ∧ (twistAfter s0 s).shc = s.shc ∧ (twistAfter s0 s).dcu = s.dcu ∧
      (twistAfter s0 s).lvu = s.lvu ∧ (twistAfter s0 s).kns = s.kns ∧ (twistAfter s0 s).bdu = s.bdu ∧
      (twistAfter s0 s).sju = s.sju ∧ (twistAfter s0 s).pfu = s.pfu ∧ (twistAfter s0 s).prm = s.prm ∧
      (twistAfter s0 s).loaded = s.loaded ∧ (twistAfter s0 s).rst = s.rst ∧ (twistAfter s0 s).pending = s.pending ∧
      (twistAfter s0 s).pfs.rest = s.pfs.rest ∧ (twistAfter s0 s).cp.rest = s.cp.rest := by
  unfold twistAfter
  try dsimp only
  (repeat' split) <;> simp

@[simp] theorem loadsAfter_frame (s0 : State) (s : State) :
    (loadsAfter s0 s).ciu = s.ciu ∧ (loadsAfter s0 s).shc = s.shc ∧ (loadsAfter s0 s).dcu = s.dcu ∧
      (loadsAfter s0 s).lvu = s.lvu ∧ (loadsAfter s0 s).kns = s.kns ∧ (loadsAfter s0 s).bdu = s.bdu ∧
      (loadsAfter s0 s).sju = s.sju ∧ (loadsAfter s0 s).pfu = s.pfu ∧ (loadsAfter s0 s).prm = s.prm ∧
      (loadsAfter s0 s).loaded = s.loaded ∧ (loadsAfter s0 s).rst = s.rst ∧ (loadsAfter s0 s).pending = s.pending ∧
      (loadsAfter s0 s).pfs.rest = s.pfs.rest ∧ (loadsAfter s0 s).cp.rest = s.cp.rest := by
  unfold loadsAfter
  try dsimp only
  simp

@[simp] theorem vspdAfter_frame (s0 : State) (s : State) :
    (vspdAfter s0 s).ciu = s.ciu ∧ (vspdAfter s0 s).shc = s.shc ∧ (vspdAfter s0 s).dcu = s.dcu ∧
      (vspdAfter s0 s).lvu = s.lvu ∧ (vspdAfter s0 s).kns = s.kns ∧ (vspdAfter s0 s).bdu = s.bdu ∧
      (vspdAfter s0 s).sju = s.sju ∧ (vspdAfter s0 s).pfu = s.pfu ∧ (vspdAfter s0 s).prm = s.prm ∧
      (vspdAfter s0 s).loaded = s.loaded ∧ (vspdAfter s0 s).rst = s.rst ∧ (vspdAfter s0 s).pending = s.pending ∧
      (vspdAfter s0 s).pfs.rest = s.pfs.rest ∧ (vspdAfter s0 s).cp.rest = s.cp.rest := by
  unfold vspdAfter
  try dsimp only
  (repeat' split) <;> simp

@[simp] theorem sampleHeights_frame (r : PerCorner Reading) (s : State) :
    (sampleHeights r s).lvu = s.lvu ∧ (sampleHeights r s).kns = s.kns ∧ (sampleHeights r s).sju = s.sju ∧
      (sampleHeights r s).pfu = s.pfu ∧ (sampleHeights r s).prm = s.prm ∧ (sampleHeights r s).loaded = s.loaded ∧
      (sampleHeights r s).rst = s.rst ∧ (sampleHeights r s).pending = s.pending ∧
      (sampleHeights r s).cp.rest = s.cp.rest := by
  unfold sampleHeights
  try dsimp only
  simp

@[simp] theorem sampleBellows_frame (r : PerCorner Reading) (s : State) :
    (sampleBellows r s).lvu = s.lvu ∧ (sampleBellows r s).kns = s.kns ∧ (sampleBellows r s).sju = s.sju ∧
      (sampleBellows r s).pfu = s.pfu ∧ (sampleBellows r s).prm = s.prm ∧ (sampleBellows r s).loaded = s.loaded ∧
      (sampleBellows r s).rst = s.rst ∧ (sampleBellows r s).pending = s.pending ∧
      (sampleBellows r s).cp.rest = s.cp.rest := by
  unfold sampleBellows
  try dsimp only
  simp

@[simp] theorem sampleBrakes_frame (r : PerAxle Reading) (s : State) :
    (sampleBrakes r s).ciu = s.ciu ∧ (sampleBrakes r s).shc = s.shc ∧ (sampleBrakes r s).dcu = s.dcu ∧
      (sampleBrakes r s).lvu = s.lvu ∧ (sampleBrakes r s).kns = s.kns ∧ (sampleBrakes r s).bdu = s.bdu ∧
      (sampleBrakes r s).sju = s.sju ∧ (sampleBrakes r s).pfu = s.pfu ∧ (sampleBrakes r s).cp = s.cp ∧
      (sampleBrakes r s).prm = s.prm ∧ (sampleBrakes r s).loaded = s.loaded ∧ (sampleBrakes r s).rst = s.rst ∧
      (sampleBrakes r s).pending = s.pending ∧ (sampleBrakes r s).pfs.rest = s.pfs.rest := by
  unfold sampleBrakes
  try dsimp only
  simp

@[simp] theorem reportPair_frame (id : Nat) (o : Rec) (q : PairResult) (s : State) :
    (reportPair id o q s).sa = s.sa ∧ (reportPair id o q s).ciu = s.ciu ∧ (reportPair id o q s).shc = s.shc ∧
      (reportPair id o q s).dcu = s.dcu ∧ (reportPair id o q s).lvu = s.lvu ∧ (reportPair id o q s).kns = s.kns ∧
      (reportPair id o q s).bdu = s.bdu ∧ (reportPair id o q s).sju = s.sju ∧ (reportPair id o q s).pfu = s.pfu ∧
      (reportPair id o q s).prm = s.prm ∧ (reportPair id o q s).loaded = s.loaded ∧
      (reportPair id o q s).rst = s.rst ∧ (reportPair id o q s).pending = s.pending ∧
      (reportPair id o q s).pfs.rest = s.pfs.rest ∧ (reportPair id o q s).cp.rest = s.cp.rest := by
  unfold reportPair
  try dsimp only
  (repeat' split) <;> simp

@[simp] theorem sampleArt_frame (r1 r2 : Reading) (s : State) :
    (sampleArt r1 r2 s).ciu = s.ciu ∧ (sampleArt r1 r2 s).shc = s.shc ∧ (sampleArt r1 r2 s).dcu = s.dcu ∧
      (sampleArt r1 r2 s).lvu = s.lvu ∧ (sampleArt r1 r2 s).kns = s.kns ∧ (sampleArt r1 r2 s).bdu = s.bdu ∧
      (sampleArt r1 r2 s).sju = s.sju ∧ (sampleArt r1 r2 s).pfu = s.pfu ∧ (sampleArt r1 r2 s).prm = s.prm ∧
      (sampleArt r1 r2 s).loaded = s.loaded ∧ (sampleArt r1 r2 s).rst = s.rst ∧
      (sampleArt r1 r2 s).pending = s.pending ∧ (sampleArt r1 r2 s).pfs.rest = s.pfs.rest ∧
      (sampleArt r1 r2 s).cp.rest = s.cp.rest := by
  unfold sampleArt
  try dsimp only
  simp

@[simp] theorem sampleRst_frame (r1 r2 : Reading) (s : State) :
    (sampleRst r1 r2 s).ciu = s.ciu ∧ (sampleRst r1 r2 s).shc = s.shc ∧ (sampleRst r1 r2 s).dcu = s.dcu ∧
      (sampleRst r1 r2 s).lvu = s.lvu ∧ (sampleRst r1 r2 s).kns = s.kns ∧ (sampleRst r1 r2 s).bdu = s.bdu ∧
      (sampleRst r1 r2 s).sju = s.sju ∧ (sampleRst r1 r2 s).pfu = s.pfu ∧ (sampleRst r1 r2 s).prm = s.prm ∧
      (sampleRst r1 r2 s).loaded = s.loaded ∧ (sampleRst r1 r2 s).rst = s.rst ∧
      (sampleRst r1 r2 s).pending = s.pending ∧ (sampleRst r1 r2 s).pfs.rest = s.pfs.rest ∧
      (sampleRst r1 r2 s).cp.rest = s.cp.rest := by
  unfold sampleRst
  try dsimp only
  simp

@[simp] theorem samplePairs_frame (b : PerAxle Reading) (a1 a2 r1 r2 : Reading) (s : State) :
    (samplePairs b a1 a2 r1 r2 s).lvu = s.lvu ∧ (samplePairs b a1 a2 r1 r2 s).kns = s.kns ∧
      (samplePairs b a1 a2 r1 r2 s).sju = s.sju ∧ (samplePairs b a1 a2 r1 r2 s).pfu = s.pfu ∧
      (samplePairs b a1 a2 r1 r2 s).prm = s.prm ∧ (samplePairs b a1 a2 r1 r2 s).loaded = s.loaded ∧
      (samplePairs b a1 a2 r1 r2 s).rst = s.rst ∧ (samplePairs b a1 a2 r1 r2 s).pending = s.pending ∧
      (samplePairs b a1 a2 r1 r2 s).cp.rest = s.cp.rest := by
  unfold samplePairs
  try dsimp only
  simp

@[simp] theorem pulseEdge_frame (w : Wheel) (u : Nat) (s : State) :
    (pulseEdge w u s).ciu = s.ciu ∧ (pulseEdge w u s).shc = s.shc ∧ (pulseEdge w u s).dcu = s.dcu ∧
      (pulseEdge w u s).lvu = s.lvu ∧ (pulseEdge w u s).kns = s.kns ∧ (pulseEdge w u s).bdu = s.bdu ∧
      (pulseEdge w u s).sju = s.sju ∧ (pulseEdge w u s).pfu = s.pfu ∧ (pulseEdge w u s).cp = s.cp ∧
      (pulseEdge w u s).pfs = s.pfs ∧ (pulseEdge w u s).prm = s.prm ∧ (pulseEdge w u s).loaded = s.loaded ∧
      (pulseEdge w u s).rst = s.rst ∧ (pulseEdge w u s).pending = s.pending := by
  unfold pulseEdge
  try dsimp only
  (repeat' split) <;> simp

@[simp] theorem sampleWheels_frame (l : PerWheel Bool) (u : Nat) (s : State) :
    (sampleWheels l u s).lvu = s.lvu ∧ (sampleWheels l u s).kns = s.kns ∧ (sampleWheels l u s).sju = s.sju ∧
      (sampleWheels l u s).pfu = s.pfu ∧ (sampleWheels l u s).prm = s.prm ∧ (sampleWheels l u s).loaded = s.loaded ∧
      (sampleWheels l u s).rst = s.rst ∧ (sampleWheels l u s).pending = s.pending ∧
      (sampleWheels l u s).cp.rest = s.cp.rest := by
  unfold sampleWheels
  try dsimp only
  simp

@[simp] theorem sampleSupply_frame (r : Reading) (s : State) :
    (sampleSupply r s).lvu = s.lvu ∧ (sampleSupply r s).kns = s.kns ∧ (sampleSupply r s).sju = s.sju ∧
      (sampleSupply r s).pfu = s.pfu ∧ (sampleSupply r s).prm = s.prm ∧ (sampleSupply r s).loaded = s.loaded ∧
      (sampleSupply r s).rst = s.rst ∧ (sampleSupply r s).pending = s.pending ∧ (sampleSupply r s).cp.rest = s.cp.rest := by
  unfold sampleSupply
  try dsimp only
  simp

@[simp] theorem emptyWindow_frame (k : SampledRec) (s : State) :
    (emptyWindow k s).ciu = s.ciu ∧ (emptyWindow k s).shc = s.shc ∧ (emptyWindow k s).dcu = s.dcu ∧
      (emptyWindow k s).lvu = s.lvu ∧ (emptyWindow k s).kns = s.kns ∧ (emptyWindow k s).bdu = s.bdu ∧
      (emptyWindow k s).sju = s.sju ∧ (emptyWindow k s).pfu = s.pfu ∧ (emptyWindow k s).cp = s.cp ∧
      (emptyWindow k s).pfs = s.pfs ∧ (emptyWindow k s).prm = s.prm ∧ (emptyWindow k s).loaded = s.loaded ∧
      (emptyWindow k s).rst = s.rst ∧ (emptyWindow k s).pending = s.pending := by
  unfold emptyWindow
  try dsimp only
  (repeat' split) <;> simp

@[simp] theorem holdWindowEnd_frame (k : SampledRec) (s : State) :
    (holdWindowEnd k s).lvu = s.lvu ∧ (holdWindowEnd k s).kns = s.kns ∧ (holdWindowEnd k s).sju = s.sju ∧
      (holdWindowEnd k s).pfu = s.pfu ∧ (holdWindowEnd k s).prm = s.prm ∧ (holdWindowEnd k s).loaded = s.loaded ∧
      (holdWindowEnd k s).rst = s.rst ∧ (holdWindowEnd k s).pending = s.pending ∧
      (holdWindowEnd k s).cp.rest = s.cp.rest := by
  unfold holdWindowEnd
  try dsimp only
  (repeat' split) <;> simp

@[simp] theorem pairHoldEnd_frame (k : PairRec) (s : State) :
    (pairHoldEnd k s).lvu = s.lvu ∧ (pairHoldEnd k s).kns = s.kns ∧ (pairHoldEnd k s).sju = s.sju ∧
      (pairHoldEnd k s).pfu = s.pfu ∧ (pairHoldEnd k s).prm = s.prm ∧ (pairHoldEnd k s).loaded = s.loaded ∧
      (pairHoldEnd k s).rst = s.rst ∧ (pairHoldEnd k s).pending = s.pending ∧ (pairHoldEnd k s).cp.rest = s.cp.rest := by
  unfold pairHoldEnd
  try dsimp only
  (repeat' split) <;> simp

@[simp] theorem portSpeedEnd_frame (s : State) :
    (portSpeedEnd s).lvu = s.lvu ∧ (portSpeedEnd s).kns = s.kns ∧ (portSpeedEnd s).sju = s.sju ∧
      (portSpeedEnd s).pfu = s.pfu ∧ (portSpeedEnd s).prm = s.prm ∧ (portSpeedEnd s).loaded = s.loaded ∧
      (portSpeedEnd s).rst = s.rst ∧ (portSpeedEnd s).pending = s.pending ∧ (portSpeedEnd s).cp.rest = s.cp.rest := by
  unfold portSpeedEnd
  try dsimp only
  (repeat' split) <;> simp

@[simp] theorem takePortSpeed_frame (v : Nat) (b : Bool) (s : State) :
    (takePortSpeed v b s).lvu = s.lvu ∧ (takePortSpeed v b s).kns = s.kns ∧ (takePortSpeed v b s).sju = s.sju ∧
      (takePortSpeed v b s).pfu = s.pfu ∧ (takePortSpeed v b s).prm = s.prm ∧
      (takePortSpeed v b s).loaded = s.loaded ∧ (takePortSpeed v b s).rst = s.rst ∧
      (takePortSpeed v b s).pending = s.pending ∧ (takePortSpeed v b s).cp.rest = s.cp.rest := by
  unfold takePortSpeed
  try dsimp only
  (repeat' split) <;> simp

@[simp] theorem endFreeze_frame (s : State) :
    (endFreeze s).lvu = s.lvu ∧ (endFreeze s).kns = s.kns ∧ (endFreeze s).sju = s.sju ∧ (endFreeze s).pfu = s.pfu ∧
      (endFreeze s).prm = s.prm ∧ (endFreeze s).loaded = s.loaded ∧ (endFreeze s).rst = s.rst ∧
      (endFreeze s).pending = s.pending ∧ (endFreeze s).cp.rest = s.cp.rest := by
  unfold endFreeze
  try dsimp only
  simp

@[simp] theorem acquisitionRunEntry_frame (s : State) :
    (acquisitionRunEntry s).lvu = s.lvu ∧ (acquisitionRunEntry s).kns = s.kns ∧
      (acquisitionRunEntry s).sju = s.sju ∧ (acquisitionRunEntry s).pfu = s.pfu ∧
      (acquisitionRunEntry s).prm = s.prm ∧ (acquisitionRunEntry s).loaded = s.loaded ∧
      (acquisitionRunEntry s).rst = s.rst ∧ (acquisitionRunEntry s).pending = s.pending ∧
      (acquisitionRunEntry s).cp.rest = s.cp.rest := by
  unfold acquisitionRunEntry
  try dsimp only
  simp

@[simp] theorem writeTargets_frame (m : Corners) (v : Corner → Int) (s : State) :
    (writeTargets m v s).sa = s.sa ∧ (writeTargets m v s).ciu = s.ciu ∧ (writeTargets m v s).shc = s.shc ∧
      (writeTargets m v s).dcu = s.dcu ∧ (writeTargets m v s).kns = s.kns ∧ (writeTargets m v s).bdu = s.bdu ∧
      (writeTargets m v s).sju = s.sju ∧ (writeTargets m v s).pfu = s.pfu ∧ (writeTargets m v s).cp = s.cp ∧
      (writeTargets m v s).pfs = s.pfs ∧ (writeTargets m v s).prm = s.prm ∧ (writeTargets m v s).loaded = s.loaded ∧
      (writeTargets m v s).rst = s.rst ∧ (writeTargets m v s).pending = s.pending := by
  unfold writeTargets
  try dsimp only
  simp

@[simp] theorem heightRewrite_frame (s : State) :
    (heightRewrite s).sa = s.sa ∧ (heightRewrite s).ciu = s.ciu ∧ (heightRewrite s).shc = s.shc ∧
      (heightRewrite s).dcu = s.dcu ∧ (heightRewrite s).kns = s.kns ∧ (heightRewrite s).bdu = s.bdu ∧
      (heightRewrite s).sju = s.sju ∧ (heightRewrite s).pfu = s.pfu ∧ (heightRewrite s).cp = s.cp ∧
      (heightRewrite s).pfs = s.pfs ∧ (heightRewrite s).prm = s.prm ∧ (heightRewrite s).loaded = s.loaded ∧
      (heightRewrite s).rst = s.rst ∧ (heightRewrite s).pending = s.pending := by
  unfold heightRewrite
  try dsimp only
  simp

@[simp] theorem setHeightMode_frame (m : HeightMode) (s : State) :
    (setHeightMode m s).sa = s.sa ∧ (setHeightMode m s).ciu = s.ciu ∧ (setHeightMode m s).shc = s.shc ∧
      (setHeightMode m s).dcu = s.dcu ∧ (setHeightMode m s).kns = s.kns ∧ (setHeightMode m s).bdu = s.bdu ∧
      (setHeightMode m s).sju = s.sju ∧ (setHeightMode m s).pfu = s.pfu ∧ (setHeightMode m s).cp = s.cp ∧
      (setHeightMode m s).pfs = s.pfs ∧ (setHeightMode m s).prm = s.prm ∧ (setHeightMode m s).loaded = s.loaded ∧
      (setHeightMode m s).rst = s.rst ∧ (setHeightMode m s).pending = s.pending := by
  unfold setHeightMode
  try dsimp only
  (repeat' split) <;> simp

@[simp] theorem takeLevelInputs_frame (s : State) :
    (takeLevelInputs s).sa = s.sa ∧ (takeLevelInputs s).ciu = s.ciu ∧ (takeLevelInputs s).shc = s.shc ∧
      (takeLevelInputs s).dcu = s.dcu ∧ (takeLevelInputs s).kns = s.kns ∧ (takeLevelInputs s).bdu = s.bdu ∧
      (takeLevelInputs s).sju = s.sju ∧ (takeLevelInputs s).pfu = s.pfu ∧ (takeLevelInputs s).cp = s.cp ∧
      (takeLevelInputs s).pfs = s.pfs ∧ (takeLevelInputs s).prm = s.prm ∧ (takeLevelInputs s).loaded = s.loaded ∧
      (takeLevelInputs s).rst = s.rst ∧ (takeLevelInputs s).pending = s.pending := by
  unfold takeLevelInputs
  try dsimp only
  simp

@[simp] theorem levellingEnd_frame (s : State) :
    (levellingEnd s).sa = s.sa ∧ (levellingEnd s).ciu = s.ciu ∧ (levellingEnd s).shc = s.shc ∧
      (levellingEnd s).dcu = s.dcu ∧ (levellingEnd s).kns = s.kns ∧ (levellingEnd s).bdu = s.bdu ∧
      (levellingEnd s).sju = s.sju ∧ (levellingEnd s).cp = s.cp ∧ (levellingEnd s).prm = s.prm ∧
      (levellingEnd s).loaded = s.loaded ∧ (levellingEnd s).rst = s.rst ∧ (levellingEnd s).pending = s.pending ∧
      (levellingEnd s).pfs.rest = s.pfs.rest := by
  unfold levellingEnd
  try dsimp only
  (repeat' split) <;> simp

@[simp] theorem setKneel_frame (k : KneelState) (s : State) :
    (setKneel k s).sa = s.sa ∧ (setKneel k s).ciu = s.ciu ∧ (setKneel k s).shc = s.shc ∧
      (setKneel k s).dcu = s.dcu ∧ (setKneel k s).lvu = s.lvu ∧ (setKneel k s).bdu = s.bdu ∧
      (setKneel k s).sju = s.sju ∧ (setKneel k s).pfu = s.pfu ∧ (setKneel k s).pfs = s.pfs ∧
      (setKneel k s).prm = s.prm ∧ (setKneel k s).loaded = s.loaded ∧ (setKneel k s).rst = s.rst ∧
      (setKneel k s).pending = s.pending ∧ (setKneel k s).cp.rest = s.cp.rest := by
  unfold setKneel
  try dsimp only
  (repeat' split) <;> simp

@[simp] theorem startLowering_frame (s : State) :
    (startLowering s).sa = s.sa ∧ (startLowering s).ciu = s.ciu ∧ (startLowering s).shc = s.shc ∧
      (startLowering s).dcu = s.dcu ∧ (startLowering s).bdu = s.bdu ∧ (startLowering s).sju = s.sju ∧
      (startLowering s).pfu = s.pfu ∧ (startLowering s).pfs = s.pfs ∧ (startLowering s).prm = s.prm ∧
      (startLowering s).loaded = s.loaded ∧ (startLowering s).rst = s.rst ∧ (startLowering s).pending = s.pending ∧
      (startLowering s).cp.rest = s.cp.rest := by
  unfold startLowering
  try dsimp only
  simp

@[simp] theorem beginKneel_frame (k : KneelKind) (s : State) :
    (beginKneel k s).sa = s.sa ∧ (beginKneel k s).ciu = s.ciu ∧ (beginKneel k s).shc = s.shc ∧
      (beginKneel k s).dcu = s.dcu ∧ (beginKneel k s).bdu = s.bdu ∧ (beginKneel k s).sju = s.sju ∧
      (beginKneel k s).pfu = s.pfu ∧ (beginKneel k s).pfs = s.pfs ∧ (beginKneel k s).prm = s.prm ∧
      (beginKneel k s).loaded = s.loaded ∧ (beginKneel k s).rst = s.rst ∧ (beginKneel k s).pending = s.pending ∧
      (beginKneel k s).cp.rest = s.cp.rest := by
  unfold beginKneel
  try dsimp only
  simp

@[simp] theorem enterPaused_frame (s : State) :
    (enterPaused s).sa = s.sa ∧ (enterPaused s).ciu = s.ciu ∧ (enterPaused s).shc = s.shc ∧
      (enterPaused s).dcu = s.dcu ∧ (enterPaused s).bdu = s.bdu ∧ (enterPaused s).sju = s.sju ∧
      (enterPaused s).pfu = s.pfu ∧ (enterPaused s).pfs = s.pfs ∧ (enterPaused s).prm = s.prm ∧
      (enterPaused s).loaded = s.loaded ∧ (enterPaused s).rst = s.rst ∧ (enterPaused s).pending = s.pending ∧
      (enterPaused s).cp.rest = s.cp.rest := by
  unfold enterPaused
  try dsimp only
  simp

@[simp] theorem endKneelTimeouts_frame (s : State) :
    (endKneelTimeouts s).sa = s.sa ∧ (endKneelTimeouts s).ciu = s.ciu ∧ (endKneelTimeouts s).shc = s.shc ∧
      (endKneelTimeouts s).dcu = s.dcu ∧ (endKneelTimeouts s).lvu = s.lvu ∧ (endKneelTimeouts s).bdu = s.bdu ∧
      (endKneelTimeouts s).sju = s.sju ∧ (endKneelTimeouts s).pfu = s.pfu ∧ (endKneelTimeouts s).cp = s.cp ∧
      (endKneelTimeouts s).prm = s.prm ∧ (endKneelTimeouts s).loaded = s.loaded ∧ (endKneelTimeouts s).rst = s.rst ∧
      (endKneelTimeouts s).pending = s.pending ∧ (endKneelTimeouts s).pfs.rest = s.pfs.rest := by
  unfold endKneelTimeouts
  try dsimp only
  simp

@[simp] theorem endRaiseTimeouts_frame (s : State) :
    (endRaiseTimeouts s).sa = s.sa ∧ (endRaiseTimeouts s).ciu = s.ciu ∧ (endRaiseTimeouts s).shc = s.shc ∧
      (endRaiseTimeouts s).dcu = s.dcu ∧ (endRaiseTimeouts s).lvu = s.lvu ∧ (endRaiseTimeouts s).bdu = s.bdu ∧
      (endRaiseTimeouts s).sju = s.sju ∧ (endRaiseTimeouts s).pfu = s.pfu ∧ (endRaiseTimeouts s).cp = s.cp ∧
      (endRaiseTimeouts s).prm = s.prm ∧ (endRaiseTimeouts s).loaded = s.loaded ∧ (endRaiseTimeouts s).rst = s.rst ∧
      (endRaiseTimeouts s).pending = s.pending ∧ (endRaiseTimeouts s).pfs.rest = s.pfs.rest := by
  unfold endRaiseTimeouts
  try dsimp only
  simp

@[simp] theorem enterKnelt_frame (s : State) :
    (enterKnelt s).sa = s.sa ∧ (enterKnelt s).ciu = s.ciu ∧ (enterKnelt s).shc = s.shc ∧
      (enterKnelt s).dcu = s.dcu ∧ (enterKnelt s).lvu = s.lvu ∧ (enterKnelt s).bdu = s.bdu ∧
      (enterKnelt s).sju = s.sju ∧ (enterKnelt s).pfu = s.pfu ∧ (enterKnelt s).prm = s.prm ∧
      (enterKnelt s).loaded = s.loaded ∧ (enterKnelt s).rst = s.rst ∧ (enterKnelt s).pending = s.pending ∧
      (enterKnelt s).pfs.rest = s.pfs.rest ∧ (enterKnelt s).cp.rest = s.cp.rest := by
  unfold enterKnelt
  try dsimp only
  simp

@[simp] theorem enterRaising_frame (s : State) :
    (enterRaising s).sa = s.sa ∧ (enterRaising s).ciu = s.ciu ∧ (enterRaising s).shc = s.shc ∧
      (enterRaising s).dcu = s.dcu ∧ (enterRaising s).bdu = s.bdu ∧ (enterRaising s).sju = s.sju ∧
      (enterRaising s).pfu = s.pfu ∧ (enterRaising s).pfs = s.pfs ∧ (enterRaising s).prm = s.prm ∧
      (enterRaising s).loaded = s.loaded ∧ (enterRaising s).rst = s.rst ∧ (enterRaising s).pending = s.pending ∧
      (enterRaising s).cp.rest = s.cp.rest := by
  unfold enterRaising
  try dsimp only
  simp

@[simp] theorem raiseAgain_frame (s : State) :
    (raiseAgain s).sa = s.sa ∧ (raiseAgain s).ciu = s.ciu ∧ (raiseAgain s).shc = s.shc ∧
      (raiseAgain s).dcu = s.dcu ∧ (raiseAgain s).bdu = s.bdu ∧ (raiseAgain s).sju = s.sju ∧
      (raiseAgain s).pfu = s.pfu ∧ (raiseAgain s).cp = s.cp ∧ (raiseAgain s).pfs = s.pfs ∧
      (raiseAgain s).prm = s.prm ∧ (raiseAgain s).loaded = s.loaded ∧ (raiseAgain s).rst = s.rst ∧
      (raiseAgain s).pending = s.pending := by
  unfold raiseAgain
  try dsimp only
  simp

@[simp] theorem enterRide_frame (s : State) :
    (enterRide s).sju = s.sju ∧ (enterRide s).pfu = s.pfu ∧ (enterRide s).prm = s.prm ∧
      (enterRide s).loaded = s.loaded ∧ (enterRide s).rst = s.rst ∧ (enterRide s).pending = s.pending ∧
      (enterRide s).cp.rest = s.cp.rest := by
  unfold enterRide
  try dsimp only
  (repeat' split) <;> simp

@[simp] theorem completionTest_frame (s : State) :
    (completionTest s).sju = s.sju ∧ (completionTest s).pfu = s.pfu ∧ (completionTest s).prm = s.prm ∧
      (completionTest s).loaded = s.loaded ∧ (completionTest s).rst = s.rst ∧
      (completionTest s).pending = s.pending ∧ (completionTest s).cp.rest = s.cp.rest := by
  unfold completionTest
  try dsimp only
  (repeat' split) <;> simp

@[simp] theorem kneelBoundary_frame (s : State) :
    (kneelBoundary s).sju = s.sju ∧ (kneelBoundary s).pfu = s.pfu ∧ (kneelBoundary s).prm = s.prm ∧
      (kneelBoundary s).loaded = s.loaded ∧ (kneelBoundary s).rst = s.rst ∧ (kneelBoundary s).pending = s.pending ∧
      (kneelBoundary s).cp.rest = s.cp.rest := by
  unfold kneelBoundary
  try dsimp only
  (repeat' split) <;> simp

@[simp] theorem loweringExpiry_frame (s : State) :
    (loweringExpiry s).sa = s.sa ∧ (loweringExpiry s).ciu = s.ciu ∧ (loweringExpiry s).shc = s.shc ∧
      (loweringExpiry s).dcu = s.dcu ∧ (loweringExpiry s).bdu = s.bdu ∧ (loweringExpiry s).sju = s.sju ∧
      (loweringExpiry s).pfu = s.pfu ∧ (loweringExpiry s).prm = s.prm ∧ (loweringExpiry s).loaded = s.loaded ∧
      (loweringExpiry s).rst = s.rst ∧ (loweringExpiry s).pending = s.pending ∧
      (loweringExpiry s).pfs.rest = s.pfs.rest ∧ (loweringExpiry s).cp.rest = s.cp.rest := by
  unfold loweringExpiry
  try dsimp only
  (repeat' split) <;> simp

@[simp] theorem raisingExpiry_frame (s : State) :
    (raisingExpiry s).sa = s.sa ∧ (raisingExpiry s).ciu = s.ciu ∧ (raisingExpiry s).shc = s.shc ∧
      (raisingExpiry s).dcu = s.dcu ∧ (raisingExpiry s).lvu = s.lvu ∧ (raisingExpiry s).bdu = s.bdu ∧
      (raisingExpiry s).sju = s.sju ∧ (raisingExpiry s).pfu = s.pfu ∧ (raisingExpiry s).prm = s.prm ∧
      (raisingExpiry s).loaded = s.loaded ∧ (raisingExpiry s).rst = s.rst ∧ (raisingExpiry s).pending = s.pending ∧
      (raisingExpiry s).pfs.rest = s.pfs.rest ∧ (raisingExpiry s).cp.rest = s.cp.rest := by
  unfold raisingExpiry
  try dsimp only
  (repeat' split) <;> simp

@[simp] theorem kneelSafeEntry_frame (s : State) :
    (kneelSafeEntry s).sa = s.sa ∧ (kneelSafeEntry s).ciu = s.ciu ∧ (kneelSafeEntry s).shc = s.shc ∧
      (kneelSafeEntry s).dcu = s.dcu ∧ (kneelSafeEntry s).lvu = s.lvu ∧ (kneelSafeEntry s).bdu = s.bdu ∧
      (kneelSafeEntry s).sju = s.sju ∧ (kneelSafeEntry s).pfu = s.pfu ∧ (kneelSafeEntry s).cp = s.cp ∧
      (kneelSafeEntry s).pfs = s.pfs ∧ (kneelSafeEntry s).prm = s.prm ∧ (kneelSafeEntry s).loaded = s.loaded ∧
      (kneelSafeEntry s).rst = s.rst ∧ (kneelSafeEntry s).pending = s.pending := by
  unfold kneelSafeEntry
  try dsimp only
  simp

@[simp] theorem storeLevelSet_frame (m : Corners) (s : State) :
    (storeLevelSet m s).sju = s.sju ∧ (storeLevelSet m s).pfu = s.pfu ∧ (storeLevelSet m s).prm = s.prm ∧
      (storeLevelSet m s).loaded = s.loaded ∧ (storeLevelSet m s).rst = s.rst ∧
      (storeLevelSet m s).pending = s.pending ∧ (storeLevelSet m s).cp.rest = s.cp.rest := by
  unfold storeLevelSet
  try dsimp only
  (repeat' split) <;> simp

@[simp] theorem storeRaiseSet_frame (m : Corners) (s : State) :
    (storeRaiseSet m s).sa = s.sa ∧ (storeRaiseSet m s).ciu = s.ciu ∧ (storeRaiseSet m s).shc = s.shc ∧
      (storeRaiseSet m s).dcu = s.dcu ∧ (storeRaiseSet m s).kns = s.kns ∧ (storeRaiseSet m s).bdu = s.bdu ∧
      (storeRaiseSet m s).sju = s.sju ∧ (storeRaiseSet m s).pfu = s.pfu ∧ (storeRaiseSet m s).cp = s.cp ∧
      (storeRaiseSet m s).pfs = s.pfs ∧ (storeRaiseSet m s).prm = s.prm ∧ (storeRaiseSet m s).loaded = s.loaded ∧
      (storeRaiseSet m s).rst = s.rst ∧ (storeRaiseSet m s).pending = s.pending := by
  unfold storeRaiseSet
  try dsimp only
  (repeat' split) <;> simp

@[simp] theorem storeDriveSet_frame (m : Corners) (s : State) :
    (storeDriveSet m s).sa = s.sa ∧ (storeDriveSet m s).ciu = s.ciu ∧ (storeDriveSet m s).shc = s.shc ∧
      (storeDriveSet m s).dcu = s.dcu ∧ (storeDriveSet m s).kns = s.kns ∧ (storeDriveSet m s).bdu = s.bdu ∧
      (storeDriveSet m s).sju = s.sju ∧ (storeDriveSet m s).pfu = s.pfu ∧ (storeDriveSet m s).cp = s.cp ∧
      (storeDriveSet m s).pfs = s.pfs ∧ (storeDriveSet m s).prm = s.prm ∧ (storeDriveSet m s).loaded = s.loaded ∧
      (storeDriveSet m s).rst = s.rst ∧ (storeDriveSet m s).pending = s.pending := by
  unfold storeDriveSet
  try dsimp only
  simp

@[simp] theorem storeMask_frame (d : Nat) (m : Corners) (s : State) :
    (storeMask d m s).sju = s.sju ∧ (storeMask d m s).pfu = s.pfu ∧ (storeMask d m s).prm = s.prm ∧
      (storeMask d m s).loaded = s.loaded ∧ (storeMask d m s).rst = s.rst ∧ (storeMask d m s).pending = s.pending ∧
      (storeMask d m s).cp.rest = s.cp.rest := by
  unfold storeMask
  try dsimp only
  (repeat' split) <;> simp

@[simp] theorem levelRunEntry_frame (a b c : Corners) (s : State) :
    (levelRunEntry a b c s).sa = s.sa ∧ (levelRunEntry a b c s).ciu = s.ciu ∧ (levelRunEntry a b c s).shc = s.shc ∧
      (levelRunEntry a b c s).dcu = s.dcu ∧ (levelRunEntry a b c s).kns = s.kns ∧
      (levelRunEntry a b c s).bdu = s.bdu ∧ (levelRunEntry a b c s).sju = s.sju ∧
      (levelRunEntry a b c s).pfu = s.pfu ∧ (levelRunEntry a b c s).cp = s.cp ∧ (levelRunEntry a b c s).pfs = s.pfs ∧
      (levelRunEntry a b c s).prm = s.prm ∧ (levelRunEntry a b c s).loaded = s.loaded ∧
      (levelRunEntry a b c s).rst = s.rst ∧ (levelRunEntry a b c s).pending = s.pending := by
  unfold levelRunEntry
  try dsimp only
  (repeat' split) <;> simp

@[simp] theorem setSteer_frame (k : SteerState) (s : State) :
    (setSteer k s).sa = s.sa ∧ (setSteer k s).ciu = s.ciu ∧ (setSteer k s).shc = s.shc ∧
      (setSteer k s).dcu = s.dcu ∧ (setSteer k s).lvu = s.lvu ∧ (setSteer k s).kns = s.kns ∧
      (setSteer k s).bdu = s.bdu ∧ (setSteer k s).pfu = s.pfu ∧ (setSteer k s).pfs = s.pfs ∧
      (setSteer k s).prm = s.prm ∧ (setSteer k s).loaded = s.loaded ∧ (setSteer k s).rst = s.rst ∧
      (setSteer k s).pending = s.pending ∧ (setSteer k s).cp.rest = s.cp.rest := by
  unfold setSteer
  try dsimp only
  (repeat' split) <;> simp

@[simp] theorem endSteerFaults_frame (s : State) :
    (endSteerFaults s).sa = s.sa ∧ (endSteerFaults s).ciu = s.ciu ∧ (endSteerFaults s).shc = s.shc ∧
      (endSteerFaults s).dcu = s.dcu ∧ (endSteerFaults s).lvu = s.lvu ∧ (endSteerFaults s).kns = s.kns ∧
      (endSteerFaults s).bdu = s.bdu ∧ (endSteerFaults s).pfu = s.pfu ∧ (endSteerFaults s).cp = s.cp ∧
      (endSteerFaults s).prm = s.prm ∧ (endSteerFaults s).loaded = s.loaded ∧ (endSteerFaults s).rst = s.rst ∧
      (endSteerFaults s).pending = s.pending ∧ (endSteerFaults s).pfs.rest = s.pfs.rest := by
  unfold endSteerFaults
  try dsimp only
  (repeat' split) <;> simp

@[simp] theorem stopBridge_frame (s : State) :
    (stopBridge s).sa = s.sa ∧ (stopBridge s).ciu = s.ciu ∧ (stopBridge s).shc = s.shc ∧
      (stopBridge s).dcu = s.dcu ∧ (stopBridge s).lvu = s.lvu ∧ (stopBridge s).kns = s.kns ∧
      (stopBridge s).bdu = s.bdu ∧ (stopBridge s).sju = s.sju ∧ (stopBridge s).cp = s.cp ∧
      (stopBridge s).prm = s.prm ∧ (stopBridge s).loaded = s.loaded ∧ (stopBridge s).rst = s.rst ∧
      (stopBridge s).pending = s.pending ∧ (stopBridge s).pfs.rest = s.pfs.rest := by
  unfold stopBridge
  try dsimp only
  simp

@[simp] theorem enterFaulted_frame (s : State) :
    (enterFaulted s).sa = s.sa ∧ (enterFaulted s).ciu = s.ciu ∧ (enterFaulted s).shc = s.shc ∧
      (enterFaulted s).dcu = s.dcu ∧ (enterFaulted s).lvu = s.lvu ∧ (enterFaulted s).kns = s.kns ∧
      (enterFaulted s).bdu = s.bdu ∧ (enterFaulted s).prm = s.prm ∧ (enterFaulted s).loaded = s.loaded ∧
      (enterFaulted s).rst = s.rst ∧ (enterFaulted s).pending = s.pending ∧ (enterFaulted s).pfs.rest = s.pfs.rest ∧
      (enterFaulted s).cp.rest = s.cp.rest := by
  unfold enterFaulted
  try dsimp only
  (repeat' split) <;> simp

@[simp] theorem enterLocked_frame (s : State) :
    (enterLocked s).sa = s.sa ∧ (enterLocked s).ciu = s.ciu ∧ (enterLocked s).shc = s.shc ∧
      (enterLocked s).dcu = s.dcu ∧ (enterLocked s).lvu = s.lvu ∧ (enterLocked s).kns = s.kns ∧
      (enterLocked s).bdu = s.bdu ∧ (enterLocked s).prm = s.prm ∧ (enterLocked s).loaded = s.loaded ∧
      (enterLocked s).rst = s.rst ∧ (enterLocked s).pending = s.pending ∧ (enterLocked s).pfs.rest = s.pfs.rest ∧
      (enterLocked s).cp.rest = s.cp.rest := by
  unfold enterLocked
  try dsimp only
  simp

@[simp] theorem enterFree_frame (s : State) :
    (enterFree s).sa = s.sa ∧ (enterFree s).ciu = s.ciu ∧ (enterFree s).shc = s.shc ∧ (enterFree s).dcu = s.dcu ∧
      (enterFree s).lvu = s.lvu ∧ (enterFree s).kns = s.kns ∧ (enterFree s).bdu = s.bdu ∧ (enterFree s).pfu = s.pfu ∧
      (enterFree s).prm = s.prm ∧ (enterFree s).loaded = s.loaded ∧ (enterFree s).rst = s.rst ∧
      (enterFree s).pending = s.pending ∧ (enterFree s).pfs.rest = s.pfs.rest ∧ (enterFree s).cp.rest = s.cp.rest := by
  unfold enterFree
  try dsimp only
  (repeat' split) <;> simp

@[simp] theorem enterCentring_frame (s : State) :
    (enterCentring s).sa = s.sa ∧ (enterCentring s).ciu = s.ciu ∧ (enterCentring s).shc = s.shc ∧
      (enterCentring s).dcu = s.dcu ∧ (enterCentring s).lvu = s.lvu ∧ (enterCentring s).kns = s.kns ∧
      (enterCentring s).bdu = s.bdu ∧ (enterCentring s).pfu = s.pfu ∧ (enterCentring s).pfs = s.pfs ∧
      (enterCentring s).prm = s.prm ∧ (enterCentring s).loaded = s.loaded ∧ (enterCentring s).rst = s.rst ∧
      (enterCentring s).pending = s.pending ∧ (enterCentring s).cp.rest = s.cp.rest := by
  unfold enterCentring
  try dsimp only
  simp

@[simp] theorem leaveFaulted_frame (w : SteerState) (s : State) :
    (leaveFaulted w s).sa = s.sa ∧ (leaveFaulted w s).ciu = s.ciu ∧ (leaveFaulted w s).shc = s.shc ∧
      (leaveFaulted w s).dcu = s.dcu ∧ (leaveFaulted w s).lvu = s.lvu ∧ (leaveFaulted w s).kns = s.kns ∧
      (leaveFaulted w s).bdu = s.bdu ∧ (leaveFaulted w s).pfu = s.pfu ∧ (leaveFaulted w s).pfs = s.pfs ∧
      (leaveFaulted w s).prm = s.prm ∧ (leaveFaulted w s).loaded = s.loaded ∧ (leaveFaulted w s).rst = s.rst ∧
      (leaveFaulted w s).pending = s.pending ∧ (leaveFaulted w s).cp.rest = s.cp.rest := by
  unfold leaveFaulted
  try dsimp only
  (repeat' split) <;> simp

@[simp] theorem steerReact_frame (w : SteerState) (s : State) :
    (steerReact w s).sa = s.sa ∧ (steerReact w s).ciu = s.ciu ∧ (steerReact w s).shc = s.shc ∧
      (steerReact w s).dcu = s.dcu ∧ (steerReact w s).lvu = s.lvu ∧ (steerReact w s).kns = s.kns ∧
      (steerReact w s).bdu = s.bdu ∧ (steerReact w s).pfu = s.pfu ∧ (steerReact w s).prm = s.prm ∧
      (steerReact w s).loaded = s.loaded ∧ (steerReact w s).rst = s.rst ∧ (steerReact w s).pending = s.pending ∧
      (steerReact w s).pfs.rest = s.pfs.rest ∧ (steerReact w s).cp.rest = s.cp.rest := by
  unfold steerReact
  try dsimp only
  (repeat' split) <;> simp

@[simp] theorem steerUpdate_frame (s : State) :
    (steerUpdate s).sa = s.sa ∧ (steerUpdate s).ciu = s.ciu ∧ (steerUpdate s).shc = s.shc ∧
      (steerUpdate s).dcu = s.dcu ∧ (steerUpdate s).lvu = s.lvu ∧ (steerUpdate s).kns = s.kns ∧
      (steerUpdate s).bdu = s.bdu ∧ (steerUpdate s).cp = s.cp ∧ (steerUpdate s).prm = s.prm ∧
      (steerUpdate s).loaded = s.loaded ∧ (steerUpdate s).rst = s.rst ∧ (steerUpdate s).pending = s.pending ∧
      (steerUpdate s).pfs.rest = s.pfs.rest := by
  unfold steerUpdate
  try dsimp only
  (repeat' split) <;> simp

@[simp] theorem settleExpiry_frame (s : State) :
    (settleExpiry s).sa = s.sa ∧ (settleExpiry s).ciu = s.ciu ∧ (settleExpiry s).shc = s.shc ∧
      (settleExpiry s).dcu = s.dcu ∧ (settleExpiry s).lvu = s.lvu ∧ (settleExpiry s).kns = s.kns ∧
      (settleExpiry s).bdu = s.bdu ∧ (settleExpiry s).prm = s.prm ∧ (settleExpiry s).loaded = s.loaded ∧
      (settleExpiry s).rst = s.rst ∧ (settleExpiry s).pending = s.pending ∧ (settleExpiry s).pfs.rest = s.pfs.rest ∧
      (settleExpiry s).cp.rest = s.cp.rest := by
  unfold settleExpiry
  try dsimp only
  (repeat' split) <;> simp

@[simp] theorem centringExpiry_frame (s : State) :
    (centringExpiry s).sa = s.sa ∧ (centringExpiry s).ciu = s.ciu ∧ (centringExpiry s).shc = s.shc ∧
      (centringExpiry s).dcu = s.dcu ∧ (centringExpiry s).lvu = s.lvu ∧ (centringExpiry s).kns = s.kns ∧
      (centringExpiry s).bdu = s.bdu ∧ (centringExpiry s).prm = s.prm ∧ (centringExpiry s).loaded = s.loaded ∧
      (centringExpiry s).rst = s.rst ∧ (centringExpiry s).pending = s.pending ∧
      (centringExpiry s).pfs.rest = s.pfs.rest ∧ (centringExpiry s).cp.rest = s.cp.rest := by
  unfold centringExpiry
  try dsimp only
  (repeat' split) <;> simp

@[simp] theorem trackingExpiry_frame (s : State) :
    (trackingExpiry s).sa = s.sa ∧ (trackingExpiry s).ciu = s.ciu ∧ (trackingExpiry s).shc = s.shc ∧
      (trackingExpiry s).dcu = s.dcu ∧ (trackingExpiry s).lvu = s.lvu ∧ (trackingExpiry s).kns = s.kns ∧
      (trackingExpiry s).bdu = s.bdu ∧ (trackingExpiry s).prm = s.prm ∧ (trackingExpiry s).loaded = s.loaded ∧
      (trackingExpiry s).rst = s.rst ∧ (trackingExpiry s).pending = s.pending ∧
      (trackingExpiry s).pfs.rest = s.pfs.rest ∧ (trackingExpiry s).cp.rest = s.cp.rest := by
  unfold trackingExpiry
  try dsimp only
  (repeat' split) <;> simp

@[simp] theorem takeJointInputs_frame (s : State) :
    (takeJointInputs s).sa = s.sa ∧ (takeJointInputs s).ciu = s.ciu ∧ (takeJointInputs s).shc = s.shc ∧
      (takeJointInputs s).dcu = s.dcu ∧ (takeJointInputs s).lvu = s.lvu ∧ (takeJointInputs s).kns = s.kns ∧
      (takeJointInputs s).bdu = s.bdu ∧ (takeJointInputs s).pfu = s.pfu ∧ (takeJointInputs s).cp = s.cp ∧
      (takeJointInputs s).pfs = s.pfs ∧ (takeJointInputs s).prm = s.prm ∧ (takeJointInputs s).loaded = s.loaded ∧
      (takeJointInputs s).rst = s.rst ∧ (takeJointInputs s).pending = s.pending := by
  unfold takeJointInputs
  try dsimp only
  simp

@[simp] theorem jointEnd_frame (s : State) :
    (jointEnd s).sa = s.sa ∧ (jointEnd s).ciu = s.ciu ∧ (jointEnd s).shc = s.shc ∧ (jointEnd s).dcu = s.dcu ∧
      (jointEnd s).lvu = s.lvu ∧ (jointEnd s).kns = s.kns ∧ (jointEnd s).bdu = s.bdu ∧ (jointEnd s).cp = s.cp ∧
      (jointEnd s).pfs = s.pfs ∧ (jointEnd s).prm = s.prm ∧ (jointEnd s).loaded = s.loaded ∧
      (jointEnd s).rst = s.rst ∧ (jointEnd s).pending = s.pending := by
  unfold jointEnd
  try dsimp only
  (repeat' split) <;> simp

@[simp] theorem withdrawDoor_frame (d : Door) (s : State) :
    (withdrawDoor d s).sa = s.sa ∧ (withdrawDoor d s).ciu = s.ciu ∧ (withdrawDoor d s).lvu = s.lvu ∧
      (withdrawDoor d s).kns = s.kns ∧ (withdrawDoor d s).bdu = s.bdu ∧ (withdrawDoor d s).sju = s.sju ∧
      (withdrawDoor d s).pfu = s.pfu ∧ (withdrawDoor d s).prm = s.prm ∧ (withdrawDoor d s).loaded = s.loaded ∧
      (withdrawDoor d s).rst = s.rst ∧ (withdrawDoor d s).pending = s.pending ∧
      (withdrawDoor d s).pfs.rest = s.pfs.rest ∧ (withdrawDoor d s).cp.rest = s.cp.rest := by
  unfold withdrawDoor
  try dsimp only
  (repeat' split) <;> simp

@[simp] theorem withdrawKneel_frame (s : State) :
    (withdrawKneel s).sa = s.sa ∧ (withdrawKneel s).ciu = s.ciu ∧ (withdrawKneel s).shc = s.shc ∧
      (withdrawKneel s).dcu = s.dcu ∧ (withdrawKneel s).bdu = s.bdu ∧ (withdrawKneel s).sju = s.sju ∧
      (withdrawKneel s).pfu = s.pfu ∧ (withdrawKneel s).pfs = s.pfs ∧ (withdrawKneel s).prm = s.prm ∧
      (withdrawKneel s).loaded = s.loaded ∧ (withdrawKneel s).rst = s.rst ∧ (withdrawKneel s).pending = s.pending ∧
      (withdrawKneel s).cp.rest = s.cp.rest := by
  unfold withdrawKneel
  try dsimp only
  (repeat' split) <;> simp

@[simp] theorem withdrawHoldRelease_frame (s : State) :
    (withdrawHoldRelease s).sa = s.sa ∧ (withdrawHoldRelease s).ciu = s.ciu ∧ (withdrawHoldRelease s).dcu = s.dcu ∧
      (withdrawHoldRelease s).lvu = s.lvu ∧ (withdrawHoldRelease s).kns = s.kns ∧
      (withdrawHoldRelease s).bdu = s.bdu ∧ (withdrawHoldRelease s).sju = s.sju ∧
      (withdrawHoldRelease s).pfu = s.pfu ∧ (withdrawHoldRelease s).pfs = s.pfs ∧
      (withdrawHoldRelease s).prm = s.prm ∧ (withdrawHoldRelease s).loaded = s.loaded ∧
      (withdrawHoldRelease s).rst = s.rst ∧ (withdrawHoldRelease s).pending = s.pending ∧
      (withdrawHoldRelease s).cp.rest = s.cp.rest := by
  unfold withdrawHoldRelease
  try dsimp only
  (repeat' split) <;> simp

@[simp] theorem withdrawHeightRaised_frame (s : State) :
    (withdrawHeightRaised s).sa = s.sa ∧ (withdrawHeightRaised s).ciu = s.ciu ∧
      (withdrawHeightRaised s).shc = s.shc ∧ (withdrawHeightRaised s).dcu = s.dcu ∧
      (withdrawHeightRaised s).kns = s.kns ∧ (withdrawHeightRaised s).bdu = s.bdu ∧
      (withdrawHeightRaised s).sju = s.sju ∧ (withdrawHeightRaised s).pfu = s.pfu ∧
      (withdrawHeightRaised s).cp = s.cp ∧ (withdrawHeightRaised s).pfs = s.pfs ∧
      (withdrawHeightRaised s).prm = s.prm ∧ (withdrawHeightRaised s).loaded = s.loaded ∧
      (withdrawHeightRaised s).rst = s.rst ∧ (withdrawHeightRaised s).pending = s.pending := by
  unfold withdrawHeightRaised
  try dsimp only
  simp

/-- A consumer acts or does not. -/
theorem onWithdrawal_eq (was now : Bool) (f : State → State) (s : State) :
    onWithdrawal was now f s = s ∨ onWithdrawal was now f s = f s := by
  unfold onWithdrawal; split <;> simp

theorem onWithdrawal_keeps {β : Type} (was now : Bool) (f : State → State) (s : State) (g : State → β)
    (h : g (f s) = g s) : g (onWithdrawal was now f s) = g s := by
  rcases onWithdrawal_eq was now f s with e | e <;> rw [e]
  exact h

@[simp] theorem consume_frame (o n : Perms) (s : State) :
    (consume o n s).sa = s.sa ∧ (consume o n s).ciu = s.ciu ∧ (consume o n s).bdu = s.bdu ∧
      (consume o n s).sju = s.sju ∧ (consume o n s).pfu = s.pfu ∧ (consume o n s).prm = s.prm ∧
      (consume o n s).loaded = s.loaded ∧ (consume o n s).rst = s.rst ∧ (consume o n s).pending = s.pending ∧
      (consume o n s).pfs.rest = s.pfs.rest ∧ (consume o n s).cp.rest = s.cp.rest := by
  refine ⟨(onWithdrawal_keeps _ _ _ _ State.sa (by simp)).trans ((onWithdrawal_keeps _ _ _ _ State.sa (by simp)).trans ((onWithdrawal_keeps _ _ _ _ State.sa (by simp)).trans
      (foldl_keeps State.sa (fun t d => onWithdrawal_keeps _ _ _ t State.sa (by simp)) _ _))),
    (onWithdrawal_keeps _ _ _ _ State.ciu (by simp)).trans ((onWithdrawal_keeps _ _ _ _ State.ciu (by simp)).trans ((onWithdrawal_keeps _ _ _ _ State.ciu (by simp)).trans
      (foldl_keeps State.ciu (fun t d => onWithdrawal_keeps _ _ _ t State.ciu (by simp)) _ _))),
    (onWithdrawal_keeps _ _ _ _ State.bdu (by simp)).trans ((onWithdrawal_keeps _ _ _ _ State.bdu (by simp)).trans ((onWithdrawal_keeps _ _ _ _ State.bdu (by simp)).trans
      (foldl_keeps State.bdu (fun t d => onWithdrawal_keeps _ _ _ t State.bdu (by simp)) _ _))),
    (onWithdrawal_keeps _ _ _ _ State.sju (by simp)).trans ((onWithdrawal_keeps _ _ _ _ State.sju (by simp)).trans ((onWithdrawal_keeps _ _ _ _ State.sju (by simp)).trans
      (foldl_keeps State.sju (fun t d => onWithdrawal_keeps _ _ _ t State.sju (by simp)) _ _))),
    (onWithdrawal_keeps _ _ _ _ State.pfu (by simp)).trans ((onWithdrawal_keeps _ _ _ _ State.pfu (by simp)).trans ((onWithdrawal_keeps _ _ _ _ State.pfu (by simp)).trans
      (foldl_keeps State.pfu (fun t d => onWithdrawal_keeps _ _ _ t State.pfu (by simp)) _ _))),
    (onWithdrawal_keeps _ _ _ _ State.prm (by simp)).trans ((onWithdrawal_keeps _ _ _ _ State.prm (by simp)).trans ((onWithdrawal_keeps _ _ _ _ State.prm (by simp)).trans
      (foldl_keeps State.prm (fun t d => onWithdrawal_keeps _ _ _ t State.prm (by simp)) _ _))),
    (onWithdrawal_keeps _ _ _ _ State.loaded (by simp)).trans ((onWithdrawal_keeps _ _ _ _ State.loaded (by simp)).trans ((onWithdrawal_keeps _ _ _ _ State.loaded (by simp)).trans
      (foldl_keeps State.loaded (fun t d => onWithdrawal_keeps _ _ _ t State.loaded (by simp)) _ _))),
    (onWithdrawal_keeps _ _ _ _ State.rst (by simp)).trans ((onWithdrawal_keeps _ _ _ _ State.rst (by simp)).trans ((onWithdrawal_keeps _ _ _ _ State.rst (by simp)).trans
      (foldl_keeps State.rst (fun t d => onWithdrawal_keeps _ _ _ t State.rst (by simp)) _ _))),
    (onWithdrawal_keeps _ _ _ _ State.pending (by simp)).trans ((onWithdrawal_keeps _ _ _ _ State.pending (by simp)).trans ((onWithdrawal_keeps _ _ _ _ State.pending (by simp)).trans
      (foldl_keeps State.pending (fun t d => onWithdrawal_keeps _ _ _ t State.pending (by simp)) _ _))),
    (onWithdrawal_keeps _ _ _ _ (fun t => t.pfs.rest) (by simp)).trans ((onWithdrawal_keeps _ _ _ _ (fun t => t.pfs.rest) (by simp)).trans ((onWithdrawal_keeps _ _ _ _ (fun t => t.pfs.rest) (by simp)).trans
      (foldl_keeps (fun t => t.pfs.rest) (fun t d => onWithdrawal_keeps _ _ _ t (fun t => t.pfs.rest) (by simp)) _ _))),
    (onWithdrawal_keeps _ _ _ _ (fun t => t.cp.rest) (by simp)).trans ((onWithdrawal_keeps _ _ _ _ (fun t => t.cp.rest) (by simp)).trans ((onWithdrawal_keeps _ _ _ _ (fun t => t.cp.rest) (by simp)).trans
      (foldl_keeps (fun t => t.cp.rest) (fun t d => onWithdrawal_keeps _ _ _ t (fun t => t.cp.rest) (by simp)) _ _)))⟩

@[simp] theorem publishPerms_frame (n : Perms) (x : BitVec 16) (s : State) :
    (publishPerms n x s).sa = s.sa ∧ (publishPerms n x s).bdu = s.bdu ∧ (publishPerms n x s).sju = s.sju ∧
      (publishPerms n x s).pfu = s.pfu ∧ (publishPerms n x s).prm = s.prm ∧ (publishPerms n x s).loaded = s.loaded ∧
      (publishPerms n x s).rst = s.rst ∧ (publishPerms n x s).pending = s.pending ∧
      (publishPerms n x s).pfs.rest = s.pfs.rest ∧ (publishPerms n x s).cp.rest = s.cp.rest := by
  unfold publishPerms
  try dsimp only
  (repeat' split) <;> simp

@[simp] theorem withdrawFloors_frame (s : State) :
    (withdrawFloors s).sa = s.sa ∧ (withdrawFloors s).bdu = s.bdu ∧ (withdrawFloors s).sju = s.sju ∧
      (withdrawFloors s).pfu = s.pfu ∧ (withdrawFloors s).prm = s.prm ∧ (withdrawFloors s).loaded = s.loaded ∧
      (withdrawFloors s).rst = s.rst ∧ (withdrawFloors s).pending = s.pending ∧
      (withdrawFloors s).pfs.rest = s.pfs.rest ∧ (withdrawFloors s).cp.rest = s.cp.rest := by
  unfold withdrawFloors
  try dsimp only
  (repeat' split) <;> simp

@[simp] theorem reactOnce_frame (s0 : State) (s : State) :
    (reactOnce s0 s).sa = s.sa ∧ (reactOnce s0 s).prm = s.prm ∧ (reactOnce s0 s).loaded = s.loaded ∧
      (reactOnce s0 s).rst = s.rst ∧ (reactOnce s0 s).pending = s.pending ∧ (reactOnce s0 s).pfs.rest = s.pfs.rest ∧
      (reactOnce s0 s).cp.rest = s.cp.rest := by
  unfold reactOnce
  try dsimp only
  (repeat' split) <;> simp

@[simp] theorem reactions_frame (n : Nat) (s0 : State) (s : State) :
    (reactions n s0 s).sa = s.sa ∧ (reactions n s0 s).prm = s.prm ∧ (reactions n s0 s).loaded = s.loaded ∧
      (reactions n s0 s).rst = s.rst ∧ (reactions n s0 s).pending = s.pending ∧
      (reactions n s0 s).pfs.rest = s.pfs.rest ∧ (reactions n s0 s).cp.rest = s.cp.rest := by
  induction n generalizing s with
  | zero => simp [reactions]
  | succ n ih =>
    simp only [reactions]
    split <;> simp [ih]

@[simp] theorem requestPasses_frame (n : Nat) (s : State) :
    (requestPasses n s).sa = s.sa ∧ (requestPasses n s).shc = s.shc ∧ (requestPasses n s).dcu = s.dcu ∧
      (requestPasses n s).lvu = s.lvu ∧ (requestPasses n s).kns = s.kns ∧ (requestPasses n s).bdu = s.bdu ∧
      (requestPasses n s).sju = s.sju ∧ (requestPasses n s).pfu = s.pfu ∧ (requestPasses n s).cp = s.cp ∧
      (requestPasses n s).pfs = s.pfs ∧ (requestPasses n s).prm = s.prm ∧ (requestPasses n s).loaded = s.loaded ∧
      (requestPasses n s).rst = s.rst ∧ (requestPasses n s).pending = s.pending := by
  unfold requestPasses
  try dsimp only
  (repeat' split) <;> simp

@[simp] theorem requestChanged_frame (s0 : State) (s : State) :
    (requestChanged s0 s).sa = s.sa ∧ (requestChanged s0 s).shc = s.shc ∧ (requestChanged s0 s).dcu = s.dcu ∧
      (requestChanged s0 s).lvu = s.lvu ∧ (requestChanged s0 s).kns = s.kns ∧ (requestChanged s0 s).bdu = s.bdu ∧
      (requestChanged s0 s).sju = s.sju ∧ (requestChanged s0 s).pfu = s.pfu ∧ (requestChanged s0 s).cp = s.cp ∧
      (requestChanged s0 s).pfs = s.pfs ∧ (requestChanged s0 s).prm = s.prm ∧
      (requestChanged s0 s).loaded = s.loaded ∧ (requestChanged s0 s).rst = s.rst ∧
      (requestChanged s0 s).pending = s.pending := by
  unfold requestChanged
  simp

@[simp] theorem settleRequests_frame (s0 : State) (s : State) :
    (settleRequests s0 s).sa = s.sa ∧ (settleRequests s0 s).shc = s.shc ∧ (settleRequests s0 s).dcu = s.dcu ∧
      (settleRequests s0 s).lvu = s.lvu ∧ (settleRequests s0 s).kns = s.kns ∧ (settleRequests s0 s).bdu = s.bdu ∧
      (settleRequests s0 s).sju = (leaveFaulted s0.sju.state s).sju ∧ (settleRequests s0 s).pfu = s.pfu ∧
      (settleRequests s0 s).cp = (leaveFaulted s0.sju.state s).cp ∧
      (settleRequests s0 s).pfs = s.pfs ∧ (settleRequests s0 s).prm = s.prm ∧
      (settleRequests s0 s).loaded = s.loaded ∧ (settleRequests s0 s).rst = s.rst ∧
      (settleRequests s0 s).pending = s.pending := by
  unfold settleRequests
  try dsimp only
  simp

@[simp] theorem finishWith_frame (e : Nat) (s0 : State) (s : State) :
    (finishWith e s0 s).sa = s.sa ∧ (finishWith e s0 s).prm = s.prm ∧ (finishWith e s0 s).loaded = s.loaded ∧
      (finishWith e s0 s).rst = s.rst ∧ (finishWith e s0 s).pending = s.pending ∧
      (finishWith e s0 s).pfs.rest = s.pfs.rest ∧ (finishWith e s0 s).cp.rest = s.cp.rest := by
  unfold finishWith
  try dsimp only
  simp

@[simp] theorem finish_frame (s0 : State) (s : State) :
    (finish s0 s).sa = s.sa ∧ (finish s0 s).prm = s.prm ∧ (finish s0 s).loaded = s.loaded ∧
      (finish s0 s).rst = s.rst ∧ (finish s0 s).pending = s.pending ∧ (finish s0 s).pfs.rest = s.pfs.rest ∧
      (finish s0 s).cp.rest = s.cp.rest := by
  unfold finish
  try dsimp only
  simp

@[simp] theorem endPass_frame (p : Pass) (s : State) :
    (endPass p s).sa = s.sa ∧ (endPass p s).bdu = s.bdu ∧ (endPass p s).sju = s.sju ∧ (endPass p s).pfu = s.pfu ∧
      (endPass p s).prm = s.prm ∧ (endPass p s).loaded = s.loaded ∧ (endPass p s).rst = s.rst ∧
      (endPass p s).pending = s.pending ∧ (endPass p s).pfs.rest = s.pfs.rest ∧ (endPass p s).cp.rest = s.cp.rest := by
  unfold endPass
  try dsimp only
  simp

@[simp] theorem passEnd_frame (s : State) :
    (passEnd s).sa = s.sa ∧ (passEnd s).prm = s.prm ∧ (passEnd s).loaded = s.loaded ∧ (passEnd s).rst = s.rst ∧
      (passEnd s).pending = s.pending ∧ (passEnd s).pfs.rest = s.pfs.rest ∧ (passEnd s).cp.rest = s.cp.rest := by
  unfold passEnd
  try dsimp only
  (repeat' split) <;> simp

@[simp] theorem clearDoubts_frame (n : Nat) (s : State) :
    (clearDoubts n s).sa = s.sa ∧ (clearDoubts n s).shc = s.shc ∧ (clearDoubts n s).dcu = s.dcu ∧
      (clearDoubts n s).lvu = s.lvu ∧ (clearDoubts n s).kns = s.kns ∧ (clearDoubts n s).bdu = s.bdu ∧
      (clearDoubts n s).sju = s.sju ∧ (clearDoubts n s).pfu = s.pfu ∧ (clearDoubts n s).cp = s.cp ∧
      (clearDoubts n s).pfs = s.pfs ∧ (clearDoubts n s).prm = s.prm ∧ (clearDoubts n s).loaded = s.loaded ∧
      (clearDoubts n s).rst = s.rst ∧ (clearDoubts n s).pending = s.pending := by
  unfold clearDoubts
  try dsimp only
  simp

@[simp] theorem interlockRunEntry_frame (s : State) :
    (interlockRunEntry s).sa = s.sa ∧ (interlockRunEntry s).shc = s.shc ∧ (interlockRunEntry s).dcu = s.dcu ∧
      (interlockRunEntry s).lvu = s.lvu ∧ (interlockRunEntry s).kns = s.kns ∧ (interlockRunEntry s).bdu = s.bdu ∧
      (interlockRunEntry s).sju = s.sju ∧ (interlockRunEntry s).pfu = s.pfu ∧ (interlockRunEntry s).cp = s.cp ∧
      (interlockRunEntry s).pfs = s.pfs ∧ (interlockRunEntry s).prm = s.prm ∧
      (interlockRunEntry s).loaded = s.loaded ∧ (interlockRunEntry s).rst = s.rst ∧
      (interlockRunEntry s).pending = s.pending := by
  unfold interlockRunEntry
  try dsimp only
  simp

@[simp] theorem indicationsEnd_frame (s : State) :
    (indicationsEnd s).sa = s.sa ∧ (indicationsEnd s).ciu = s.ciu ∧ (indicationsEnd s).shc = s.shc ∧
      (indicationsEnd s).dcu = s.dcu ∧ (indicationsEnd s).lvu = s.lvu ∧ (indicationsEnd s).kns = s.kns ∧
      (indicationsEnd s).bdu = s.bdu ∧ (indicationsEnd s).sju = s.sju ∧ (indicationsEnd s).pfu = s.pfu ∧
      (indicationsEnd s).pfs = s.pfs ∧ (indicationsEnd s).prm = s.prm ∧ (indicationsEnd s).loaded = s.loaded ∧
      (indicationsEnd s).rst = s.rst ∧ (indicationsEnd s).pending = s.pending := by
  unfold indicationsEnd
  try dsimp only
  (repeat' split) <;> simp

@[simp] theorem takeIndications_frame (a b : Bool) (s : State) :
    (takeIndications a b s).sa = s.sa ∧ (takeIndications a b s).ciu = s.ciu ∧ (takeIndications a b s).shc = s.shc ∧
      (takeIndications a b s).dcu = s.dcu ∧ (takeIndications a b s).lvu = s.lvu ∧
      (takeIndications a b s).kns = s.kns ∧ (takeIndications a b s).bdu = s.bdu ∧
      (takeIndications a b s).sju = s.sju ∧ (takeIndications a b s).pfu = s.pfu ∧
      (takeIndications a b s).pfs = s.pfs ∧ (takeIndications a b s).prm = s.prm ∧
      (takeIndications a b s).loaded = s.loaded ∧ (takeIndications a b s).rst = s.rst ∧
      (takeIndications a b s).pending = s.pending := by
  unfold takeIndications
  try dsimp only
  simp

/-! ### Closings and transactions that change nothing -/

/-- A list differs from itself nowhere. -/
theorem differing_self (xs : List Bool) : differing xs xs = 0 := by
  induction xs with
  | nil => rfl
  | cons x xs ih => simpa [differing] using ih

/-- An event that changes nothing makes no request. -/
theorem requestCount_self (s : State) : requestCount s s = 0 := by
  have h : floorRecovered s s = false := by
    simp only [floorRecovered]
    induction s.floors.members with
    | nil => rfl
    | cons x xs ih => cases x <;> simp_all
  have h' : settledOpen s s = 0 := by
    simp [settledOpen, Door.all]
  simp [requestCount, differing_self, h, h']

/-- A frame that changes nothing outside its port requests no pass. -/
theorem requestChanged_self (s : State) : requestChanged s s = s := by
  simp [requestChanged, requestCount_self, requestPasses]

/-- Away from the way out of FAULTED, the closing of an event that changes nothing changes nothing. -/
theorem settleRequests_self (s : State) (h : s.centringDue = false) : settleRequests s s = s := by
  simp [settleRequests, leaveFaulted, h, requestChanged_self]

/-- The way out of FAULTED asks for no pass: no state bit, condition bit or floor tells FAULTED from CENTRING. -/
theorem requestCount_leaveFaulted (s : State) : requestCount s s.left = 0 := by
  by_cases h : s.sju.state = .faulted ∧ s.centringDue = true
  · have hl : s.left = enterCentring s := by simp [State.left, leaveFaulted, h]
    have hb : s.left.stateBits = s.stateBits := by
      simp [hl, State.stateBits, enterCentring, setSteer, h.1, raiseAttention, State.isShut, State.allShut,
        State.brakeActive, State.faultPresent, State.groupTripped, State.vspd]
      exact ⟨rfl, rfl, rfl, rfl, rfl⟩
    have hc : s.left.conds = s.conds := by
      simp [hl, State.conds, State.cond, State.slot?]
    have hf : s.left.floors = s.floors := by
      simp [hl, State.floors, enterCentring, setSteer, h.1, raiseAttention, State.allShut, State.vspd]
      rfl
    have h0 := requestCount_self s
    have hd : settledOpen s s.left = settledOpen s s := by
      rw [hl]
      simp only [settledOpen, State.isShut, enterCentring_frame]
    simp only [requestCount, floorRecovered, hb, hc, hf, hd] at h0 ⊢
    exact h0
  · have hl : s.left = s := by simp [State.left, leaveFaulted, h]
    rw [hl, requestCount_self]

/-- The closing of an event that changed nothing is the way out of FAULTED alone (R151). -/
theorem settleRequests_left (s : State) : settleRequests s s = s.left := by
  have h := requestCount_leaveFaulted s
  simp only [State.left] at h
  simp [settleRequests, requestChanged, State.left, h, requestPasses]

/-- A transaction that met no reset is taken as its frame says. -/
theorem completeTransaction_sound (p : PortId) (f : State → State) (s : State) (hl : s.rst.low = false)
    (hc : s.rst.cut.get p = false) : completeTransaction p f s = f s := by
  simp [completeTransaction, hl, hc]

/-- While RST_N is low, and in a transaction that met a reset, no frame is decoded, whatever it is. -/
theorem completeTransaction_met (p : PortId) (f g : State → State) (s : State)
    (h : s.rst.low = true ∨ s.rst.cut.get p = true) : completeTransaction p f s = completeTransaction p g s := by
  unfold completeTransaction
  rcases h with h | h <;> simp [h]

end Sys2Proof.Machine
end

