-- ==== Sys2Proof/Laws/Memory.lean ====
section
/-! SUPPORT. The profile's bytes: a read after a write, and the canonical form. -/

namespace Sys2Proof.Machine

/-- Every listed address of a form that starts at `lo` is at least `lo`. -/
theorem Memory.wfFrom_weaken {lo lo' : Nat} {m : Memory} (h : Memory.wfFrom lo m = true) (hle : lo' ≤ lo) :
    Memory.wfFrom lo' m = true := by
  cases m with
  | nil => rfl
  | cons c m =>
    obtain ⟨a, v⟩ := c
    simp only [Memory.wfFrom, Bool.and_eq_true, decide_eq_true_eq] at h ⊢
    exact ⟨⟨by omega, h.1.2⟩, h.2⟩

/-- Below the first listed address every byte reads 0. -/
theorem Memory.read_below {lo : Nat} {m : Memory} (h : Memory.wfFrom lo m = true) {a : Nat} (ha : a < lo) :
    m.read a = 0#8 := by
  cases m with
  | nil => rfl
  | cons c m =>
    obtain ⟨b, v⟩ := c
    simp only [Memory.wfFrom, Bool.and_eq_true, decide_eq_true_eq] at h
    simp only [Memory.read]
    rw [if_neg (by omega), if_pos (by omega)]

/-- A write keeps the canonical form. -/
theorem Memory.wfFrom_write {m : Memory} {lo : Nat} (h : Memory.wfFrom lo m = true) (a : Nat) (v : Byte)
    (ha : lo ≤ a) : Memory.wfFrom lo (m.write a v) = true := by
  induction m generalizing lo with
  | nil =>
    by_cases hv : v = 0#8
    · simp [Memory.write, hv, Memory.wfFrom]
    · simp [Memory.write, hv, Memory.wfFrom, ha]
  | cons c m ih =>
    obtain ⟨b, w⟩ := c
    simp only [Memory.wfFrom, Bool.and_eq_true, decide_eq_true_eq] at h
    obtain ⟨⟨hb, hw⟩, hm⟩ := h
    by_cases h1 : a = b
    · subst h1
      by_cases hv : v = 0#8
      · simpa [Memory.write, hv] using Memory.wfFrom_weaken hm (by omega)
      · simp [Memory.write, hv, Memory.wfFrom, ha, hm]
    · by_cases h2 : a < b
      · by_cases hv : v = 0#8
        · simp [Memory.write, h1, h2, hv, Memory.wfFrom, hb, hw, hm]
        · simp [Memory.write, h1, h2, hv, Memory.wfFrom, ha, hw, hm]
      · have := ih hm (by omega)
        simp [Memory.write, h1, h2, Memory.wfFrom, hb, hw, this]

theorem Memory.wf_write {m : Memory} (h : m.wf = true) (a : Nat) (v : Byte) : (m.write a v).wf = true :=
  Memory.wfFrom_write h a v (Nat.zero_le a)

theorem Memory.wf_writeBytes {m : Memory} (h : m.wf = true) (a : Nat) (vs : List Byte) :
    (m.writeBytes a vs).wf = true := by
  induction vs generalizing m a with
  | nil => exact h
  | cons v vs ih => exact ih (Memory.wf_write h a v) (a + 1)

/-- A read after a write: the value written at its address, the old byte elsewhere. -/
theorem Memory.read_write {m : Memory} {lo : Nat} (h : Memory.wfFrom lo m = true) (a : Nat) (v : Byte) (c : Nat) :
    (m.write a v).read c = if c = a then v else m.read c := by
  induction m generalizing lo with
  | nil =>
    by_cases hv : v = 0#8
    · by_cases hc : c = a <;> simp [Memory.write, Memory.read, hv, hc]
    · by_cases hc : c = a <;> simp [Memory.write, Memory.read, hv, hc]
  | cons e m ih =>
    obtain ⟨b, w⟩ := e
    simp only [Memory.wfFrom, Bool.and_eq_true, decide_eq_true_eq] at h
    obtain ⟨⟨-, -⟩, hm⟩ := h
    by_cases h1 : a = b
    · subst h1
      by_cases hv : v = 0#8
      · subst hv
        by_cases hc : c = a
        · subst hc
          simpa [Memory.write, Memory.read] using Memory.read_below hm (Nat.lt_succ_self c)
        · by_cases hl : c < a
          · simpa [Memory.write, Memory.read, hc, hl] using Memory.read_below hm (by omega)
          · simp [Memory.write, Memory.read, hc, hl]
      · by_cases hc : c = a <;> simp [Memory.write, Memory.read, hv, hc]
    · by_cases h2 : a < b
      · by_cases hv : v = 0#8
        · subst hv
          by_cases hc : c = a
          · subst hc
            simp [Memory.write, Memory.read, h1, h2]
          · simp [Memory.write, h1, h2, hc]
        · by_cases hc : c = a
          · subst hc
            simp [Memory.write, Memory.read, h1, h2, hv]
          · by_cases hl : c < a
            · simp [Memory.write, Memory.read, h1, h2, hv, hc, hl, show c ≠ b by omega, show c < b by omega]
            · simp [Memory.write, Memory.read, h1, h2, hv, hc, hl]
      · have := ih hm
        by_cases hcb : c = b
        · subst hcb
          simp [Memory.write, Memory.read, h1, h2, show ¬ c = a by omega]
        · by_cases hl : c < b
          · simp [Memory.write, Memory.read, h1, h2, hcb, hl, show ¬ c = a by omega]
          · simp [Memory.write, Memory.read, h1, h2, hcb, hl, this]

/-- Bytes outside a run that is written read as before. -/
theorem Memory.read_writeBytes_outside {m : Memory} (h : m.wf = true) (a : Nat) (vs : List Byte) (c : Nat)
    (hc : c < a ∨ a + vs.length ≤ c) : (m.writeBytes a vs).read c = m.read c := by
  induction vs generalizing m a with
  | nil => rfl
  | cons v vs ih =>
    simp only [List.length_cons] at hc
    rw [Memory.writeBytes, ih (Memory.wf_write h a v) (a + 1) (by omega), Memory.read_write h, if_neg (by omega)]

/-- A run that is written reads as written. -/
theorem Memory.read_writeBytes_inside {m : Memory} (h : m.wf = true) (a : Nat) (vs : List Byte) (k : Nat)
    (hk : k < vs.length) : (m.writeBytes a vs).read (a + k) = vs.getD k 0#8 := by
  induction vs generalizing m a k with
  | nil => simp at hk
  | cons v vs ih =>
    cases k with
    | zero =>
      rw [Nat.add_zero, Memory.writeBytes, Memory.read_writeBytes_outside (Memory.wf_write h a v) (a + 1) vs a (by omega),
        Memory.read_write h, if_pos rfl]
      rfl
    | succ k =>
      have hk' : k < vs.length := by simpa using hk
      have := ih (Memory.wf_write h a v) (a + 1) k hk'
      rw [show a + (k + 1) = a + 1 + k by omega, Memory.writeBytes, this]
      rfl

/-- The profile is in canonical form after reset. -/
theorem Memory.wf_reset : State.reset.pfs.profile.wf = true := rfl

end Sys2Proof.Machine
end

