-- ==== Sys2Proof/Tests/Slice0.lean ====
section
/-! SUPPORT. Tests: one ill-formed command for each check of `Instr.wellFormed`, the worked cases of the spec, and for
every statement that has hypotheses a witness that meets them. Expected values are the spec's own (the section is named)
or worked by hand from the rule named. -/

set_option Elab.async false

namespace Sys2Proof.Tests

open Sys2Proof.Machine

/-! ### States -/

/-- A FRESH record with its own sensor's value. -/
def ok (v : Int) : Rec := ⟨v, .fresh, 0, .primary, v, none⟩

/-- The parameters of the spec's worked cases (3.7, 5.7, 6.11, 7.10, 8.9, 8.11, 9.8). -/
def prm : Params :=
  { Params.unloaded with
    signals := { Params.unloaded.signals with
      hgt := .fill ⟨0, 4095, 2048, 1024⟩, prs := .fill ⟨0, 4095, 0, 1024⟩, brp := .fill ⟨0, 4095, 0, 1024⟩,
      art1 := ⟨0, 4095, 2048, 1024⟩, art2 := ⟨0, 4095, 2048, 1024⟩, rst1 := ⟨0, 4095, 2048, 1024⟩,
      rst2 := ⟨0, 4095, 2048, 1024⟩, vsup := ⟨0, 4095, 0, 1024⟩, aeff := .fill 650, unsprung := .fill 900,
      vsupLow := 2200 }
    slots := ⟨some 21, 100, 100, false⟩ :: ⟨some 15, 0, 1500, true⟩ :: List.replicate 14 ⟨none, 0, 0, false⟩
    gates := [⟨2, 64, 65, 104⟩, ⟨1, 64, 78, 88⟩]
    level :=
      { coupling := .ofFn fun i => .ofFn fun j =>
          if i = j then 1024 else if (i = .al ∧ j = .ar) ∨ (i = .ar ∧ j = .al) then 128 else 0
        kfill := .fill 64, kvent := ⟨16, 64, 16, 16, 16, 16⟩, dbStand := 30, dbDrive := 30, minPulse := 20,
        maxWidthStand := 450, maxWidthDrive := 450, stagger := 150, raiseHeight := 400 }
    kneel := ⟨.right, -1000, 50, 50, 8000, 8000, 200, true⟩
    brake :=
      { ladenRef := ⟨10000, 10000, 12000⟩, rMin := .fill 358, pMax := ⟨700, 800, 750⟩, dbBrake := 10, kin := .fill 20,
        kex := .fill 16, minPulse := 20 }
    steer :=
      { lockSpeed := 3000
        table := [(0, 410), (500, 410), (1000, 380), (1500, 330), (2000, 260), (2500, 180), (3000, 90), (3500, 0)]
        polarity := 1, maxAngle := 1000, rate := 6, kp := 512, dMax := 900, dBase := 200, kj := 40, dRet := 150,
        angleLimit := 4000, dLim := 300 }
    frames := ⟨20, .ofFn fun k => match k with
      | .inlet _ | .exhaust _ => ⟨true, true, true, none⟩
      | .joint | .fill _ | .vent _ | .bridge => ⟨false, false, true, none⟩⟩
    hold := ⟨⟨200, 250, 300⟩, 300, 30, 50⟩
    ports := ⟨.fill 200, .fill 0xFF#8⟩ }

/-- Every record FRESH at 0, the supply at 24 V. -/
def image : Image :=
  { hgt := .fill (ok 0), prs := .fill (ok 400), brp := .fill (ok 300), art := ok 0, rst := ok 0, wsp := .fill (ok 0),
    vspd := ok 0, load := .fill (ok 6100), twist := ok 0, artRate := ok 0, vsup := ok 2400 }

def shut : DoorRec := ⟨.shut, .made, false, none, none, false, false, false, 0, true, 0⟩

/-- RUN at a stop: hold APPLIED, steer LOCKED, kneel RIDE, doors SHUT, channels ARMED. -/
def stop : State :=
  { State.reset with
    sa := { Acquisition.reset with image := image, sampled := allSampled, artHist := List.replicate 11 ⟨0, .fresh, .primary⟩ }
    ciu := { Interlock.reset with perms := ⟨.fill true, true, true, false, true, true⟩ }
    shc := { Hold.reset with state := .applied, floor := ⟨200, 250, 300⟩ }
    dcu := .fill shut
    sju := { Steer.reset with state := .locked, centring := none }
    pfu := { PulseUnit.reset with chan := .ofFn fun _ => ⟨.armed, none, 0, true, false, false⟩ }
    pfs := { Store.reset .power with mode := .run, startUp := none, integrity := some 1000 }
    prm := prm
    loaded := true }

/-- RUN under way: hold RELEASED, steer FREE. -/
def ride : State :=
  { stop with
    ciu := { stop.ciu with perms := ⟨.fill false, false, true, true, true, true⟩ }
    shc := Hold.reset
    sju := { stop.sju with state := .free } }

def config : State :=
  { stop with
    pfs := { stop.pfs with mode := .config, integrity := none }
    shc := Hold.reset
    ciu := Interlock.reset
    prm := .unloaded
    loaded := false }

/-- LOWERING with kind FULL at the stop, door 2 open. -/
def kneeling : State :=
  { stop with
    ciu := { stop.ciu with perms := { stop.ciu.perms with holdRelease := false } }
    dcu := { stop.dcu with d2 := { shut with phase := .opened, closed := .broken } }
    lvu := { stop.lvu with kneelSet := 0x2A#6, target := ⟨0, -1000, 0, -1000, 0, -1000⟩ }
    kns := { stop.kns with state := .lowering, kind := .full, lowering := some 8000, freeze := true } }

/-- The worked frame of 5.7. -/
def levelling : State :=
  stop.withLvu { stop.lvu with
    work := some
      { hgt := ⟨ok (-20), ok (-200), ok 15, ok (-60), ok (-90), ok (-480)⟩, target := ⟨0, -800, 0, 0, 0, 0⟩,
        levelSet := 0x2F#6, driveSet := 0x3C#6, pauseSet := 0#6, mode := .run, kneel := .lowering, vspd := ok 0,
        levelDrive := true, params := prm.level } }

/-- The worked case of 8.9. -/
def steering : State :=
  (ride.withImage { image with art := ok 1500, vspd := ok 1200, rst := ok (-495) }).withSju
    { ride.sju with angle := -500 }

/-- The hold is APPLYING. -/
def applying (s : State) : State := s.withShc { s.shc with state := .applying, applying := some 1500 }

/-! ### One step -/

/-- The state that an outcome holds. -/
def after (o : Host.Outcome State Fault Refusal) : State :=
  match o with
  | .next t => t
  | .fault _ | .refused _ => State.reset

/-- What an event leaves. -/
def did (c : Instr) (s : State) : State := after (exec c s)

/-- The result and payload of the reply that a port holds. -/
def reply (p : PortId) (s : State) : Option (Result × List Byte) :=
  (s.cp.port.get p).reply.map fun r => (r.result, r.payload)

/-- The state with one command waiting. -/
def queue (c : Instr) (s : State) : State := s.withPending [c]

/-- A step answers a next state. -/
def steps (s : State) : Bool :=
  match step s with
  | .next _ => true
  | .fault _ | .refused _ => false


/-! ### Ill-formed commands -/

theorem test_wf_height_code_above_4095 :
    Instr.wellFormed (.heightSample ⟨some 4096, none, none, none, none, none⟩) = false := by decide +kernel

theorem test_wf_height_code_4095 :
    Instr.wellFormed (.heightSample (.fill (some 4095))) = true := by decide +kernel

theorem test_wf_bellows_code_above_4095 :
    Instr.wellFormed (.bellowsSample ⟨none, none, none, none, none, some 4096⟩) = false := by decide +kernel

theorem test_wf_brake_code_above_4095 :
    Instr.wellFormed (.pairSample ⟨none, some 4096, none⟩ none none none none) = false := by decide +kernel

theorem test_wf_pair_code_above_4095 :
    Instr.wellFormed (.pairSample (.fill none) none none none (some 4096)) = false := by decide +kernel

theorem test_wf_supply_code_above_4095 :
    Instr.wellFormed (.vsupSample (some 4096)) = false := by decide +kernel

theorem test_wf_evaluation_after_the_millisecond :
    Instr.wellFormed (.wheelSpeedEvaluation (.fill false) 1000) = false := by decide +kernel

theorem test_wf_edge_after_the_millisecond :
    Instr.wellFormed (.wheelSpeedPulseEdge .al 1000) = false := by decide +kernel

theorem test_wf_boundary_order_of_another_group :
    Instr.wellFormed (.frameBoundary .lvl .captureFirst) = false := by decide +kernel

theorem test_wf_frame_error_with_a_valid_frame :
    Instr.wellFormed (.frameError .f [0x00#8, 0x00#8, 0x00#8]) = false := by decide +kernel

theorem test_wf_frame_error_with_a_wrong_check_byte :
    Instr.wellFormed (.frameError .f [0x00#8, 0x00#8, 0x01#8]) = true := by decide +kernel

theorem test_wf_unknown_command_with_a_known_code :
    Instr.wellFormed (.unknownCommand .f 0x22#8 []) = false := by decide +kernel

theorem test_wf_unknown_command_too_long :
    Instr.wellFormed (.unknownCommand .f 0x23#8 (List.replicate 49 0#8)) = false := by decide +kernel

theorem test_wf_apply_with_operand_release :
    Instr.wellFormed (.holdApply .f [1#8]) = false := by decide +kernel

theorem test_wf_release_with_operand_apply :
    Instr.wellFormed (.holdRelease .f [0#8]) = false := by decide +kernel

theorem test_wf_open_with_operand_close :
    Instr.wellFormed (.doorOpen .b [1#8, 1#8]) = false := by decide +kernel

theorem test_wf_close_with_operand_open :
    Instr.wellFormed (.doorClose .b [0#8, 1#8]) = false := by decide +kernel

theorem test_wf_normal_with_operand_raised :
    Instr.wellFormed (.heightModeNormal .f [1#8]) = false := by decide +kernel

theorem test_wf_raised_with_operand_normal :
    Instr.wellFormed (.heightModeRaised .f [0#8]) = false := by decide +kernel

theorem test_wf_kneel_with_operand_halt :
    Instr.wellFormed (.kneel .b [1#8, 0#8]) = false := by decide +kernel

theorem test_wf_kneel_with_operand_raise :
    Instr.wellFormed (.kneel .b [2#8, 0#8]) = false := by decide +kernel

theorem test_wf_halt_with_operand_kneel :
    Instr.wellFormed (.halt .b [0#8, 0#8]) = false := by decide +kernel

theorem test_wf_raise_with_operand_halt :
    Instr.wellFormed (.raise .b [1#8, 0#8]) = false := by decide +kernel

theorem test_wf_payload_above_48_bytes :
    Instr.wellFormed (.nop .f (List.replicate 49 0#8)) = false := by decide +kernel

theorem test_wf_payload_of_48_bytes :
    Instr.wellFormed (.profileWrite .f (List.replicate 48 0#8)) = true := by decide +kernel

/-! ### The spec's worked cases, one step each -/

/-- R181: the check byte appended to a frame leaves the remainder 0; and the check byte of 0x01 is the polynomial. -/
theorem test_crc8_of_a_door_frame :
    crc8 [0x01#8] = 0x4D#8 ∧
    crc8 ([0x14#8, 0x02#8, 0x00#8, 0x02#8] ++ [crc8 [0x14#8, 0x02#8, 0x00#8, 0x02#8]]) = 0#8 := by
  decide +kernel

/-- R195: the CRC-16 with these settings of "123456789" is 0x29B1 (the usual check word of polynomial 0x1021, start
0xFFFF). -/
theorem test_crc16_of_the_standard_check_string :
    crc16 [0x31#8, 0x32#8, 0x33#8, 0x34#8, 0x35#8, 0x36#8, 0x37#8, 0x38#8, 0x39#8] = 0x29B1#16 := by
  decide +kernel

/-- R195: the profile has 1130 bytes. -/
theorem test_sections_make_1130_bytes :
    sectionBase 11 = profileSize ∧
    sectionBase 9 = 1106 := by
  decide +kernel

/-- R203: START with cause POWER. -/
theorem test_powerOn :
    (did .powerOn stop).pfs.mode = .start ∧
    (did .powerOn stop).pfs.cause = .power := by
  decide +kernel

/-- R203: the release gives cause LINE when the supply stayed up. -/
theorem test_rstN :
    (did .rstN (did .rstNAsserted stop)).pfs.cause = .line ∧
    (did .rstN (did .powerOn (did .rstNAsserted stop))).pfs.cause = .power := by
  decide +kernel

/-- R193: the transaction in progress is abandoned; log entry 4: the line low stops all else. -/
theorem test_rstNAsserted :
    (did .rstNAsserted (did (.transactionStart .f) stop)).cp.port.f.shift = none ∧
    did (.nop .f []) (did .rstNAsserted stop) = did .rstNAsserted stop := by
  decide +kernel

/-- R193: its end is not decoded, and the next one is. -/
theorem test_transaction_that_met_a_reset :
    (did (.nop .f []) (did .rstN (did .rstNAsserted (did (.transactionStart .f) stop)))).cp.port.f.reply = none ∧
    reply .f (did (.nop .f []) (did (.nop .f []) (did .rstN (did .rstNAsserted (did (.transactionStart .f) stop)))))
      = some (.done, []) := by
  decide +kernel

/-- R25: in START the list holds no SENSOR_LOST; outside it R12 raises it. -/
theorem test_loss_in_start_raises_nothing :
    (did (.pairHoldTimerExpiry .rst) ((stop.withImage
      { image with rst := ⟨0, .held, 20, .primary, 0, some 0⟩ }).withPfs
      { stop.pfs with mode := .start })).pfs.faults = [] ∧
    (did (.pairHoldTimerExpiry .rst) (stop.withImage
      { image with rst := ⟨0, .held, 20, .primary, 0, some 0⟩ })).pfs.faults = [⟨.sensorLost, 16, 0, 1, true⟩] := by
  decide +kernel

/-- Worked sequence of 1.3, t = 10: HELD with 200 ms, value kept; TWIST HELD. -/
theorem test_height_sample_missing :
    (did (.heightSample ⟨some 2048, some 2048, some 2048, none, some 2048, some 2048⟩) stop).sa.image.hgt.br = ⟨0,
      .held, 0, .primary, 0, some 200⟩ ∧
    (did (.heightSample ⟨some 2048, some 2048, some 2048, none, some 2048, some 2048⟩) stop).sa.image.twist.validity
      = .held := by
  decide +kernel

/-- R5, R6: (2013 - 2048) x 1024 / 1024 = -35, the only sample of the window. -/
theorem test_height_sample_converts :
    (did (.heightSample (.fill (some 2013))) stop).sa.image.hgt.bl = ok (-35) := by
  decide +kernel

/-- Worked case 7.10: 420 and 380 with Aeff 650 and 900 unsprung give 6100, and the ratio 624. -/
theorem test_bellows_sample_gives_the_load :
    (did (.bellowsSample ⟨some 400, some 400, some 420, some 380, some 400, some 400⟩) stop).sa.image.load.b.value =
      6100 ∧
    (did (.bellowsSample ⟨some 400, some 400, some 420, some 380, some 400, some 400⟩) (stop.withBdu
      { stop.bdu with ratio := .fill 0 })).bdu.ratio.b = 0 := by
  decide +kernel

/-- Worked sequence of 1.4, t = 0: 1510 and 1490 give FRESH 1500. -/
theorem test_pair_sample_agrees :
    (did (.pairSample (.fill (some 300)) (some 3558) (some 3538) (some 2048) (some 2048)) stop).sa.image.art = ok
      1500 := by
  decide +kernel

/-- Worked sequence of 1.4, t = 1: HELD for 50 ms, SENSOR_DISAGREE with source 15. -/
theorem test_pair_sample_disagrees :
    (did (.pairSample (.fill (some 300)) (some 3560) (some 3298) (some 2048) (some 2048))
      stop).sa.image.art.validity = .held ∧
    (did (.pairSample (.fill (some 300)) (some 3560) (some 3298) (some 2048) (some 2048)) stop).pfs.faults =
      [⟨.sensorDisagree, 15, 0, 1, true⟩] := by
  decide +kernel

/-- R4: an interval of 10000 us and an edge 5000 us ago give 1000; R15: VSPD is the highest usable wheel. -/
theorem test_wheel_evaluation_from_the_longer_interval :
    (did (.wheelSpeedEvaluation (.fill false) 0) (stop.withSa
      { stop.sa with usTime := 20000, pulses := .fill ⟨some 15000, some 10000⟩ })).sa.image.vspd.value = 1000 := by
  decide +kernel

/-- R4: without an interval the raw rate is 0. -/
theorem test_wheel_evaluation_without_pulses :
    (did (.wheelSpeedEvaluation (.fill false) 0) stop).sa.image.wsp.al = ok 0 := by
  decide +kernel

/-- Worked sequence of 9.8, t = 43: VSUP 2050 trips the six axle channels, not the joint, and the hold is APPLYING
again. -/
theorem test_vsup_sample_trips :
    ((did (.vsupSample (some 2050)) stop).pfu.chan.get (.exhaust .c)).cause = some .vsupLow ∧
    (did (.vsupSample (some 2050)) stop).pfu.chan.joint.state = .armed ∧
    (did (.vsupSample (some 2050)) stop).shc.state = .applying ∧
    (did (.vsupSample (some 2050)) stop).pfs.faults.length = 6 := by
  decide +kernel

/-- Worked sequence of 1.3, t = 210: the partner's value, source partner, window emptied. -/
theorem test_hold_window_substitutes :
    (did (.holdWindowExpiry (.hgt .br)) (stop.withImage
      { image with hgt := ⟨ok 0, ok 0, ok (-52), ⟨-40, .held, 210, .primary, -40, some 0⟩, ok 0, ok 0⟩ })).sa.image.hgt.br
      = ⟨-52, .substituted, 210, .partner, -40, none⟩ := by
  decide +kernel

/-- Worked sequence of 1.3, t = 500: both corners and TWIST LOST, three faults. -/
theorem test_hold_window_loses_both :
    (did (.holdWindowExpiry (.hgt .bl)) (stop.withImage
      { image with hgt := ⟨ok 0, ok 0, ⟨-52, .held, 200, .primary, -52, some 0⟩, ⟨-52, .substituted, 500, .partner, -40, none⟩, ok 0, ok 0⟩ })).pfs.faults.map
      (·.source) = [2, 3, 25] := by
  decide +kernel

/-- R12, R150: RST LOST, SENSOR_LOST (16), steer FAULTED. -/
theorem test_pair_hold_timer_of_rst :
    (did (.pairHoldTimerExpiry .rst) (stop.withImage
      { image with rst := ⟨0, .held, 20, .primary, 0, some 0⟩ })).sju.state = .faulted := by
  decide +kernel

/-- R16: with no wheel usable VSPD is LOST. -/
theorem test_port_speed_expiry :
    (did .portRSpeedExpiry (stop.withSa
      { stop.sa with image := { image with wsp := .fill .reset, vspd := ⟨100, .substituted, 0, .port, 0, none⟩ }, portSpeedLeft := some 0 })).sa.image.vspd.validity
      = .lost := by
  decide +kernel

/-- R33: both indications clear. -/
theorem test_drive_indication_expiry :
    (did .driveIndicationExpiry (stop.withCp
      { stop.cp with retarder := true, engaged := true, driveLeft := some 0 })).cp.retarder = false := by
  decide +kernel

/-- R39, R40: the program sets P_DOOR1 from MODE_RUN or HOLD_RELEASED; its floor fails while the hold is RELEASED. -/
theorem test_pass_end_publishes_under_the_floors :
    (did .passEnd (ride.withCiu { ride.ciu with pass := some ride.newPass })).ciu.results.door.d1 = true ∧
    (did .passEnd (ride.withCiu { ride.ciu with pass := some ride.newPass })).ciu.perms.door.d1 = false := by
  decide +kernel

/-- R39: on a held bus the same program publishes P_DOOR1. -/
theorem test_pass_end_on_a_held_bus :
    (did .passEnd (stop.withCiu { stop.ciu with pass := some stop.newPass })).ciu.perms.door = ⟨true, false, false,
      false⟩ := by
  decide +kernel

/-- Worked sequence of 3.7, step 1: VSPD 1200 is VSPD_ABOVE_ENTRY. -/
theorem test_hold_apply_refused_at_speed :
    reply .f (did (.holdApply .f [0#8]) (ride.withImage { image with vspd := ok 1200 })) = some (.refusedInterlock,
      [0#8, 0#8, 2#8]) := by
  decide +kernel

/-- Worked sequence of 3.7, step 2: floors 200/250/300, applying timer, steer CENTRING. -/
theorem test_hold_apply :
    (did (.holdApply .f [0#8]) (ride.withImage { image with vspd := ok 250 })).shc.floor = ⟨200, 250, 300⟩ ∧
    (did (.holdApply .f [0#8]) ride).sju.state = .centring := by
  decide +kernel

/-- Worked sequence of 3.7, step 12: RELEASING, P_DOOR and P_KNEEL withdrawn. -/
theorem test_hold_release :
    (did (.holdRelease .f [1#8]) stop).shc.state = .releasing ∧
    (did (.holdRelease .f [1#8]) stop).ciu.perms.kneel = false := by
  decide +kernel

/-- Worked sequence of 3.7, step 8: block set DOOR2_NOT_SHUT, KNEEL_NOT_RIDE, PERMISSION_CLEAR; causes as step 7. -/
theorem test_hold_release_refused :
    reply .f (did (.holdRelease .f [1#8]) kneeling) = some (.refusedInterlock, [0x12#8, 2#8, 0x32#8, 0x16#8]) := by
  decide +kernel

/-- R54: an axle that failed the last test is reported. -/
theorem test_applying_timer_reports :
    (did .applyingTimerExpiry (stop.withShc
      { stop.shc with state := .applying, applying := some 0, lastFailed := ⟨false, true, false⟩ })).pfs.faults =
      [⟨.holdNotReached, 1, 0, 1, true⟩] := by
  decide +kernel

/-- R61: the floors fall back to the hold floors. -/
theorem test_quiet_timer_ends_the_creep :
    (did .quietTimerExpiry (stop.withShc
      { stop.shc with creep := true, quiet := some 0, floor := ⟨700, 800, 750⟩ })).shc.floor = ⟨200, 250, 300⟩ := by
  decide +kernel

/-- R70: a made switch settles to SHUT; R84: a settling requests a pass, one to OPEN too. -/
theorem test_door_settles :
    (did (.doorSettle .d1 true) (stop.setDoor .d1 DoorRec.reset)).dcu.d1.phase = .shut ∧
    (did (.doorSettle .d1 false) State.reset).ciu.pass.isSome = true := by
  decide +kernel

/-- R76: 200 ms. -/
theorem test_make_in_closing_starts_the_proof :
    (did (.closedSwitchMake .d2) (stop.setDoor .d2
      { shut with phase := .closing, closed := .broken, phaseTimer := some 9000 })).dcu.d2.proofTimer = some 200 := by
  decide +kernel

/-- Worked sequence of 4.13: OPEN, forced, DOOR_FORCED with the door's number; the hold's application is pending at
speed. -/
theorem test_break_forces_a_shut_door :
    (did (.closedSwitchBreak .d3) (ride.withImage { image with vspd := ok 4000 })).dcu.d3.forced = true ∧
    (did (.closedSwitchBreak .d3) (ride.withImage { image with vspd := ok 4000 })).shc.pendingApply = true := by
  decide +kernel

/-- Worked sequence of 3.7, step 6: the released door goes OPEN. -/
theorem test_break_of_a_released_door :
    (did (.closedSwitchBreak .d2) (did (.doorOpen .b [0#8, 2#8]) stop)).dcu.d2.phase = .opened := by
  decide +kernel

/-- R77: OBSTRUCTED, both timers stopped. -/
theorem test_press_obstructs_a_closing_door :
    (did (.edgeSwitchPress .d1) (stop.setDoor .d1
      { shut with phase := .closing, phaseTimer := some 5000, proofTimer := some 100 })).dcu.d1 =
      { shut with phase := .obstructed, pressed := true } := by
  decide +kernel

/-- R75: OPEN. -/
theorem test_release_reopens_an_obstructed_door :
    (did (.edgeSwitchRelease .d1) (stop.setDoor .d1
      { shut with phase := .obstructed, pressed := true })).dcu.d1.phase = .opened := by
  decide +kernel

/-- Worked sequence of 10.8, transaction 1: RELEASED, P_HOLD_RELEASE withdrawn, both attention kinds. -/
theorem test_door_open :
    (did (.doorOpen .b [0#8, 2#8]) stop).dcu.d2.phase = .released ∧
    (did (.doorOpen .b [0#8, 2#8]) stop).ciu.perms.holdRelease = false ∧
    (did (.doorOpen .b [0#8, 2#8]) stop).cp.port.b.attn = 3#8 := by
  decide +kernel

/-- Worked sequence of 10.8, transaction 5: REFUSED_RANGE. -/
theorem test_door_open_of_door_5 :
    reply .b (did (.doorOpen .b [0#8, 5#8]) stop) = some (.refusedRange, []) := by
  decide +kernel

/-- R74: an OPEN door starts CLOSING for 15000 ms. -/
theorem test_door_close :
    (did (.doorClose .b [1#8, 1#8]) (stop.setDoor .d1
      { shut with phase := .opened, closed := .broken })).dcu.d1.phaseTimer = some 15000 := by
  decide +kernel

/-- R73: SHUT. -/
theorem test_phase_timer_shuts_a_released_door :
    (did (.phaseTimerExpiry .d2) (did (.doorOpen .b [0#8, 2#8]) stop)).dcu.d2.phase = .shut := by
  decide +kernel

/-- R76: SHUT. -/
theorem test_proof_timer_shuts_a_closing_door :
    (did (.proofTimerExpiry .d1) (stop.setDoor .d1
      { shut with phase := .closing, proofTimer := some 0 })).dcu.d1.phase = .shut := by
  decide +kernel

/-- Worked frame of 5.7: the demands. -/
theorem test_levelling_worked_frame :
    (did .levellingComputation levelling).lvu.record.demand = ⟨-55, -597, -15, 60, 90, 480⟩ ∧
    (did .levellingComputation levelling).lvu.record.actMask = 0x2F#6 := by
  decide +kernel

/-- Worked frame of 5.7: delays and widths as staged. -/
theorem test_levelling_worked_widths :
    (did .levellingComputation levelling).pfu.staged.vent = ⟨⟨0, 20⟩, ⟨150, 450⟩, ⟨300, 0⟩, ⟨450, 0⟩, ⟨600, 0⟩,
      ⟨750, 0⟩⟩ ∧
    (did .levellingComputation levelling).pfu.staged.fill = ⟨⟨0, 0⟩, ⟨150, 0⟩, ⟨300, 0⟩, ⟨450, 60⟩, ⟨600, 0⟩, ⟨750,
      250⟩⟩ := by
  decide +kernel

/-- R94: the raise height into every corner of entry 3. -/
theorem test_height_mode_raised :
    (did (.heightModeRaised .f [1#8]) stop).lvu.target = .fill 400 := by
  decide +kernel

/-- R94: back to 0. -/
theorem test_height_mode_normal :
    (did (.heightModeNormal .f [0#8]) (did (.heightModeRaised .f [1#8]) stop)).lvu.target = .fill 0 := by
  decide +kernel

/-- R99: axles A and C of the right side. -/
theorem test_set_mask_and_with :
    (did (.setMask .f [4#8, 0x33#8, 7#8]) stop).lvu.driveSet = 0x22#6 := by
  decide +kernel

/-- R118, end of 6.11: entry 2 without the kneeling corners ends the kneel at RIDE. -/
theorem test_set_mask_ends_an_empty_kneel :
    (did (.setMask .f [2#8, 0x15#8, 255#8]) kneeling).kns.state = .ride ∧
    (did (.setMask .f [2#8, 0x15#8, 255#8]) kneeling).lvu.target = .fill 0 := by
  decide +kernel

/-- Worked sequence of 6.11: entry 1 is AR, BR, CR, their targets -1000, the freeze set, P_HOLD_RELEASE withdrawn. -/
theorem test_kneel_full :
    (did (.kneel .b [0#8, 1#8]) stop).lvu.kneelSet = 0x2A#6 ∧
    (did (.kneel .b [0#8, 1#8]) stop).lvu.target = ⟨0, -1000, 0, -1000, 0, -1000⟩ ∧
    (did (.kneel .b [0#8, 1#8]) stop).ciu.perms.holdRelease = false := by
  decide +kernel

/-- Worked sequence of 6.11: REFUSED_AUTHORITY. -/
theorem test_kneel_from_port_f :
    reply .f (did (.kneel .f [0#8, 1#8]) stop) = some (.refusedAuthority, []) := by
  decide +kernel

/-- R112, R113: each corner's height becomes its target. -/
theorem test_halt_stops_where_the_corners_are :
    (did (.halt .b [1#8, 0#8]) (kneeling.withImage
      { image with hgt := ⟨ok 0, ok (-520), ok 0, ok (-480), ok 0, ok (-200)⟩ })).lvu.target = ⟨0, -520, 0, -480, 0,
      -200⟩ := by
  decide +kernel

/-- R114: refused with the doors that are not SHUT. -/
theorem test_raise_needs_shut_doors :
    reply .b (did (.raise .b [2#8, 0#8]) kneeling) = some (.refusedInterlock, [1#8, 1#8, 0x2A#8, 0x1F#8, 0x40#8,
      1#8, 0#8, 0x10#8]) := by
  decide +kernel

/-- R114: RAISING with ride targets. -/
theorem test_raise :
    (did (.raise .b [2#8, 0#8]) (kneeling.setDoor .d2 shut)).lvu.target = .fill 0 ∧
    (did (.raise .b [2#8, 0#8]) (kneeling.setDoor .d2 shut)).kns.raising = some 8000 := by
  decide +kernel

/-- R113: PAUSED, KNEEL_TIMEOUT for the corner behind (CR, source 5). -/
theorem test_lowering_timer :
    (did .loweringTimerExpiry (kneeling.withKns { kneeling.kns with behind := 0x20#6 })).kns.state = .paused ∧
    (did .loweringTimerExpiry (kneeling.withKns { kneeling.kns with behind := 0x20#6 })).pfs.faults.map (·.source) =
      [5] := by
  decide +kernel

/-- R115: the kneel stays RAISING, RAISE_TIMEOUT reported. -/
theorem test_raising_timer :
    (did .raisingTimerExpiry (stop.withKns
      { stop.kns with state := .raising, raising := some 0, behind := 0x02#6 })).kns.state = .raising := by
  decide +kernel

/-- Limit case of 7.10: 1200, 300, 300 for 500 ms. -/
theorem test_brake_demand_clamped :
    (did (.brakeDemand .r [4#8, 0xB0#8, 1#8, 0x2C#8, 1#8, 0x2C#8, 1#8, 0xF4#8]) stop).bdu.intervention = ⟨⟨1000,
      300, 300⟩, 200⟩ := by
  decide +kernel

/-- Worked case of 7.10: demand 500 with ratio 624 gives 304; at 0 the floor, 250. -/
theorem test_brake_setpoint :
    (did (.brakeDemand .f [0#8, 0#8, 1#8, 0xF4#8, 0#8, 0#8, 0#8, 100#8]) (stop.withBdu
      { stop.bdu with ratio := .fill 624 })).setpoint .b = 304 ∧
    (stop.withBdu { stop.bdu with ratio := .fill 624 }).setpoint .b = 250 := by
  decide +kernel

/-- Limit case of 7.10: 300 and 400 with ratio 768 give 300, and 225 after the intervention's expiry. -/
theorem test_demand_expiry :
    (did (.demandExpiry .intervention) (ride.withBdu
      { ride.bdu with service := ⟨⟨300, 0, 0⟩, 50⟩, intervention := ⟨⟨400, 0, 0⟩, 1⟩, ratio := .fill 768 })).setpoint
      .a = 225 := by
  decide +kernel

/-- R134: any error outside dbBrake gets at least minPulseBrake, here one whose raw width 6 x 1 / 16 is 0; log entry
51. -/
theorem test_width_of_a_small_error_outside_the_deadband :
    modulate ⟨.fill 306, .fill (ok 300), .fill false, .run,
      { prm.brake with dbBrake := 5, minPulse := 20, kin := .fill 1 }⟩ .a = ⟨6, 20, 0⟩ := by
  decide +kernel

/-- Worked case of 7.10: 304 against 280 gives 30 ticks; 250 against 299 gives 49 of exhaust. -/
theorem test_modulator_worked_case :
    (did .modulatorComputation (stop.withBdu
      { stop.bdu with work := some ⟨⟨304, 304, 250⟩, ⟨ok 280, ok 291, ok 299⟩, .fill false, .run, prm.brake⟩ })).pfu.staged.inlet
      = ⟨30, 20, 0⟩ ∧
    (did .modulatorComputation (stop.withBdu
      { stop.bdu with work := some ⟨⟨304, 304, 250⟩, ⟨ok 280, ok 291, ok 299⟩, .fill false, .run, prm.brake⟩ })).pfu.staged.exhaust
      = ⟨0, 0, 49⟩ := by
  decide +kernel

/-- R136: BRAKE_DEVIATION with the axle as source. -/
theorem test_deviation_timer :
    (did (.deviationTimerExpiry .b) (stop.withBdu { stop.bdu with deviation := ⟨none, some 0, none⟩ })).pfs.faults =
      [⟨.brakeDeviation, 1, 0, 1, true⟩] := by
  decide +kernel

/-- Worked case of 8.9: gain 360, target -527, c -506, error -11, duty -22. -/
theorem test_steer_update_worked_case :
    (did .steerUpdate steering).sju.gain = 360 ∧
    (did .steerUpdate steering).sju.target = -527 ∧
    (did .steerUpdate steering).sju.angle = -506 ∧
    (did .steerUpdate steering).sju.err = -11 ∧
    (did .steerUpdate steering).pfu.staged.bridge = -22 := by
  decide +kernel

/-- R147: LOCKED. -/
theorem test_settle_timer :
    (did .settleTimerExpiry (stop.withSju { stop.sju with state := .centring, settle := some 0 })).sju.state =
      .locked := by
  decide +kernel

/-- R148: FAULTED, STEER_CENTRING_TIMEOUT of axle C. -/
theorem test_centring_timer :
    (did .centringTimerExpiry (stop.withSju { stop.sju with state := .centring, centring := some 0 })).pfs.faults =
      [⟨.steerCentringTimeout, 2, 0, 1, true⟩] := by
  decide +kernel

/-- R156: FAULTED with c at 0. -/
theorem test_tracking_timer :
    (did .trackingTimerExpiry (ride.withSju { ride.sju with angle := 300, tracking := some 0 })).sju.angle = 0 ∧
    (did .trackingTimerExpiry (ride.withSju { ride.sju with angle := 300, tracking := some 0 })).sju.state =
      .faulted := by
  decide +kernel

/-- Worked computation of 8.11: D 767, JOINT 233. -/
theorem test_joint_worked_computation :
    (did .jointComputation (stop.withSju
      { stop.sju with work := some ⟨ok 4200, ok (-3000), true, prm.steer⟩ })).sju.damping = ⟨767, 200, 117, 150,
      300, 233⟩ := by
  decide +kernel

/-- Worked sequence of 3.7, step 3: B and C have not reached. -/
theorem test_brake_boundary_reached_test :
    (did (.frameBoundary .brk .holdFirst) ((applying stop).withImage
      { image with brp := ⟨ok 190, ok 200, ok 240⟩ })).shc.lastFailed = ⟨false, true, true⟩ := by
  decide +kernel

/-- Worked sequence of 3.7, step 13: 150/200/250. -/
theorem test_brake_boundary_ramp :
    (did (.frameBoundary .brk .holdFirst) (did (.holdRelease .f [1#8]) stop)).shc.floor = ⟨150, 200, 250⟩ := by
  decide +kernel

/-- R170: FRAME_STARVED of LVL; its channels that select it trip. -/
theorem test_starvation_timer :
    (did (.starvationTimerExpiry .lvl) stop).pfu.group.lvl.starved = true ∧
    (did (.starvationTimerExpiry .lvl) stop).pfu.chan.fill.al.cause = some .frameStarved := by
  decide +kernel

/-- Worked sequence of 9.8, t = 200: an over-current in C_IN trips it; the report ends with the output. -/
theorem test_driver_diag_report :
    ((did (.driverDiagReport (.inlet .c) .overCurrent) (stop.withPfu
      { stop.pfu with active := { Values.zero with inlet := ⟨0, 0, 30⟩ } })).pfu.chan.get (.inlet .c)) = ⟨.tripped,
      some .driverDiag, 1, false, false, false⟩ := by
  decide +kernel

/-- R172: the open load flag clears. -/
theorem test_driver_diag_cleared :
    ((did (.driverDiagCleared .joint) (did (.driverDiagReport .joint .openLoad) stop)).pfu.chan.get .joint).openLoad
      = false := by
  decide +kernel

/-- Worked sequence of 9.8, t = 65: REFUSED_AUTHORITY. -/
theorem test_rearm_from_port_b :
    reply .b (did (.rearm .b [0#8, 0#8, 0#8, 0x3F#8]) (did (.vsupSample (some 2050)) stop)) = some
      (.refusedAuthority, []) := by
  decide +kernel

/-- Worked sequence of 9.8, t = 71 and 80: REARM_PENDING, ARMED at the boundary, the fault LATENT. -/
theorem test_rearm :
    ((did (.rearm .f [0#8, 0#8, 0#8, 0x7F#8]) (did (.vsupSample (some 2400)) (did (.vsupSample (some 2050))
      stop))).pfu.chan.get (.inlet .a)).state = .rearmPending ∧
    ((did (.frameBoundary .brk .holdFirst) (did (.rearm .f [0#8, 0#8, 0#8, 0x7F#8]) (did (.vsupSample (some 2400))
      (did (.vsupSample (some 2050)) stop)))).pfu.chan.get (.inlet .a)).state = .armed := by
  decide +kernel

/-- R182: a reply like that to NOP; mode RUN, hold APPLIED, inhibit asserted make the first byte 0xA1. -/
theorem test_transaction_start_on_an_empty_buffer :
    ((did (.transactionStart .r) stop).cp.port.r.shift.map (·.take 6)) = some [0xA1#8, 0x80#8, 0x00#8, 0x00#8,
      0x00#8, 0x00#8] := by
  decide +kernel

/-- Worked sequence of 10.8, transaction 3: FRAME_ERROR with ECHO 0x06 and LEN 0. -/
theorem test_frame_error :
    ((did (.frameError .b [0x06#8, 0x00#8, 0xFF#8]) stop).cp.port.b.reply.map fun r => (r.echo, r.result,
      r.payload)) = some (0x06#8, .frameError, []) := by
  decide +kernel

/-- R184: UNKNOWN_COMMAND. -/
theorem test_unknown_command :
    reply .f (did (.unknownCommand .f 0x23#8 []) stop) = some (.unknownCommand, []) := by
  decide +kernel

/-- R188, R174, R151: a NOP, and a REARM without a TRIPPED channel, reach no block, so that FAULTED and the passes
stay though the four conditions hold; the next event at a block leaves FAULTED. -/
theorem test_nop_in_faulted :
    (stop.withSju { stop.sju with state := .faulted }).centringDue = true ∧
    (did (.nop .f []) (stop.withSju { stop.sju with state := .faulted })).sju = (stop.withSju
      { stop.sju with state := .faulted }).sju ∧
    (did (.nop .f []) (stop.withSju { stop.sju with state := .faulted })).ciu = (stop.withSju
      { stop.sju with state := .faulted }).ciu ∧
    (did (.rearm .f [2#8, 0#8, 0#8, 0#8]) (stop.withSju { stop.sju with state := .faulted })).sju = (stop.withSju
      { stop.sju with state := .faulted }).sju ∧
    (did (.driverDiagCleared .joint) (stop.withSju { stop.sju with state := .faulted })).sju.state = .centring := by
  decide +kernel

/-- R180: 0x00 after the reply's eight bytes; nothing without a transaction. -/
theorem test_data_output_after_the_reply :
    ((did (.transactionStart .f) stop).dataOut .f 0).isSome ∧
    (did (.transactionStart .f) stop).dataOut .f 100 = some 0#8 ∧
    stop.dataOut .f 0 = none := by
  decide +kernel

/-- R188, R190: DONE, and the port is no longer silent. -/
theorem test_nop :
    reply .r (did (.nop .r []) stop) = some (.done, []) ∧
    (did (.nop .r []) (did (.silenceTimerExpiry .r) stop)).cp.port.r.silent = false := by
  decide +kernel

/-- R188: inhibit causes, last-reset cause, three ports with 1000 ms each, indications, PORT-R speed. -/
theorem test_read_status :
    reply .f (did (.readStatus .f []) (stop.withCp Ports.reset)) = some (.done, [2#8, 0#8, 0#8, 0#8, 200#8, 0#8,
      3#8, 0xE8#8, 0#8, 3#8, 0xE8#8, 0#8, 0#8, 0#8, 0#8, 0#8, 0#8]) := by
  decide +kernel

/-- R23: record 27 alone, value 2400. -/
theorem test_read_image_clamps :
    reply .f (did (.readImage .f [30#8, 9#8]) stop) = some (.clamped, [27#8, 9#8, 0x60#8, 0#8, 0#8, 0#8, 0#8, 9#8,
      0x60#8]) := by
  decide +kernel

/-- Worked sequence of 10.8, transaction 4: the flags 0 and 1, then empty. -/
theorem test_read_attention :
    reply .b (did (.readAttention .b []) (did (.doorOpen .b [0#8, 2#8]) stop)) = some (.done, [3#8]) ∧
    (did (.readAttention .b []) (did (.doorOpen .b [0#8, 2#8]) stop)).cp.port.b.attn = 0#8 := by
  decide +kernel

/-- R202: no overflow, one entry, ACTIVE. -/
theorem test_read_faults :
    reply .f (did (.readFaults .f []) (raiseFault .portSilent 2 stop)) = some (.done, [0#8, 1#8, 2#8, 2#8, 0#8, 0#8,
      0#8, 0#8, 1#8, 0#8]) := by
  decide +kernel

/-- R44: published set, results, floors first: all but P_STEER_FREE published, nothing in results. -/
theorem test_read_permissions :
    (reply .f (did (.readPermissions .f []) stop)).map (fun r => r.2.take 6) = some [1#8, 0xBF#8, 0#8, 0#8, 1#8,
      0xBF#8] := by
  decide +kernel

/-- R140: two demands, times, ratio 1024, no freeze. -/
theorem test_read_brake :
    (reply .f (did (.readBrake .f []) stop)).map (fun r => r.2.take 9) = some [0#8, 0#8, 0#8, 0#8, 0#8, 0#8, 4#8,
      0#8, 0#8] := by
  decide +kernel

/-- R103: NORMAL, six targets and six ride targets of 0, then the entries. -/
theorem test_read_level :
    (reply .f (did (.readLevel .f []) stop)).map (fun r => (r.2.drop 25).take 12) = some [0x3F#8, 0#8, 0x3F#8,
      0x3F#8, 0x3F#8, 0#8, 0x15#8, 0x2A#8, 3#8, 0x0C#8, 0x30#8, 0x0F#8] := by
  decide +kernel

/-- R159: LOCKED with causes HOLD_NOT_RELEASED and PERMISSION_CLEAR. -/
theorem test_read_steer :
    (reply .f (did (.readSteer .f []) stop)).map (fun r => r.2.take 2) = some [2#8, 0x0A#8] := by
  decide +kernel

/-- R16, R33, R189: 20000 is stored as 15000, CLAMPED. -/
theorem test_drive_status :
    reply .r (did (.driveStatus .r [5#8, 0x4E#8, 0x20#8]) stop) = some (.clamped, [0x3A#8, 0x98#8, 1#8, 1#8, 0#8]) := by
  decide +kernel

/-- R202: a LATENT entry is removed, an ACTIVE one stays. -/
theorem test_clear_fault :
    (did (.clearFault .f [255#8, 255#8]) (raiseFault .portSilent 1 (endFault .portSilent 2 (raiseFault .portSilent 2
      stop)))).pfs.faults.map (·.source) = [1] := by
  decide +kernel

/-- R30: the latch of a FRESH record clears. -/
theorem test_clear_doubt :
    (did (.clearDoubt .b [0#8, 2#8]) (stop.withCiu { stop.ciu with latches := 2#16 })).ciu.latches = 0#16 := by
  decide +kernel

/-- R194, R176: SAFE, every channel TRIPPED with cause SAFE. -/
theorem test_enter_safe :
    (did (.enterSafe .f []) stop).pfs.mode = .safe ∧
    ((did (.enterSafe .f []) stop).pfu.chan.get .bridge).cause = some .safe := by
  decide +kernel

/-- R196: the bytes stand at the section's place; the confirmations are gone. -/
theorem test_profile_write :
    (did (.profileWrite .b [9#8, 0#8, 0#8, 0x12#8, 0x34#8]) config).pfs.profile = [(1106, 0x12#8), (1107, 0x34#8)] := by
  decide +kernel

/-- R196: REFUSED_RANGE. -/
theorem test_profile_write_beyond_the_section :
    reply .b (did (.profileWrite .b [9#8, 0#8, 11#8, 0x12#8, 0x34#8]) config) = some (.refusedRange, []) := by
  decide +kernel

/-- R197: an unconfirmed section fails; a first confirmation is only recorded. -/
theorem test_profile_confirm_of_another_value :
    (confirm .f config).pfs.confirmF = true ∧
    failingSection config.pfs.profile = some 0 := by
  decide +kernel

/-- R190: silent, PORT_SILENT with the port's number. -/
theorem test_silence_timer :
    (did (.silenceTimerExpiry .b) stop).pfs.faults = [⟨.portSilent, 2, 0, 1, true⟩] := by
  decide +kernel

/-- R194: CONFIG; R25: SENSOR_LOST for all 28 records, of which 24 find a place. -/
theorem test_start_up_timer :
    (did .startUpTimerExpiry State.reset).pfs.mode = .config ∧
    (did .startUpTimerExpiry State.reset).pfs.overflow = true := by
  decide +kernel

/-- R68, R69: the 20th differing sample breaks the switch, the 19th does not. -/
theorem test_door_switch_sample_counts :
    (did (.doorSwitchSample ⟨true, false, true, true⟩ (.fill false)) (stop.setDoor .d2
      { shut with closedCount := 18 })).dcu.d2.closed = .made ∧
    (did (.doorSwitchSample ⟨true, false, true, true⟩ (.fill false)) (stop.setDoor .d2
      { shut with closedCount := 19 })).dcu.d2.closed = .broken := by
  decide +kernel

/-- R4: the interval since the last edge. -/
theorem test_wheel_speed_pulse_edge :
    (did (.wheelSpeedPulseEdge .ar 250) (stop.withSa
      { stop.sa with usTime := 9000, pulses := .fill ⟨some 4250, none⟩ })).sa.pulses.ar = ⟨some 9250, some 5000⟩ := by
  decide +kernel

/-- R1, R200: ages and the time rise. -/
theorem test_a_millisecond :
    (after (step stop)).sa.image.art.age = 1 ∧
    (after (step stop)).pfs.timeMs = 1 := by
  decide +kernel

/-- Log entry 32. -/
theorem test_no_word_spells_a_command :
    decodeTableWord 8 0 = none ∧
    stop.withFetchWord 8 0 = stop := by
  decide +kernel

/-! ### Witnesses: a state and operands that meet the hypotheses of a statement, clause by clause -/

/-! ### States that the witnesses use -/

/-- The bus at a stop with both demands in force. -/
def demanding : State :=
  stop.withBdu { stop.bdu with service := ⟨⟨500, 400, 300⟩, 50⟩, intervention := ⟨⟨0, 900, 0⟩, 2⟩ }

/-- Every height, bellows and wheel record, and TWIST, at one validity. -/
def cornersAt (v : Validity) : State :=
  let r : Rec := { ok 0 with validity := v, hold := if v = .held then some 0 else none }
  stop.withImage { image with hgt := .fill r, prs := .fill r, wsp := .fill r, twist := r }

/-- Wheel AL has an interval of 10000 us and an edge 5000 us ago. -/
def pulsed : State := stop.withSa { stop.sa with usTime := 20000, pulses := .fill ⟨some 15000, some 10000⟩ }

/-- The wheel speeds accept no raw rate below 1. -/
def narrow : State :=
  { stop with prm := { prm with signals := { prm.signals with wsp := .fill ⟨1, 65535, 0, 1024⟩ } } }

/-- A loaded program with no sample yet. -/
def unsampled : State := { State.reset with prm := prm, loaded := true }

/-- Timers at their end: a height with a LOST partner, ART, RST, the PORT-R speed, the drive indications. -/
def oneHeld : State :=
  let held : Rec := { ok 0 with validity := .held, hold := some 0 }
  let lost : Rec := { ok 0 with validity := .lost }
  (stop.withSa { stop.sa with
    portSpeedLeft := some 0
    image := { image with
      hgt := ⟨held, lost, ok 0, ok 0, ok 0, ok 0⟩, art := held, rst := held, wsp := .fill lost } }).withCp
    { stop.cp with driveLeft := some 0 }

/-- A pass is in progress and one more is owed. -/
def passing : State := stop.withCiu { stop.ciu with pass := some stop.newPass, again := true }

def rideAt (v : Int) : State := ride.withImage { image with vspd := ok v }

def speedLost (s : State) : State := s.withImage { image with vspd := { ok 0 with validity := .lost } }

/-- APPLIED under creep, axle B reported as not reached. -/
def creeping : State :=
  stop.withShc { stop.shc with
    creep := true, quiet := some 1000, floor := ⟨700, 800, 750⟩, notReached := ⟨false, true, false⟩ }

def pendingApply : State := ride.withShc { ride.shc with pendingApply := true }

/-- Low supply has tripped the axle channels. -/
def lowSupply : State := did (.vsupSample (some 2050)) stop

/-- ... and the supply has recovered. -/
def tripped : State := did (.vsupSample (some 2400)) lowSupply

/-- ... and REARM has been answered DONE. -/
def rearming : State := did (.rearm .f [0#8, 0#8, 0#8, 0x7F#8]) tripped

/-- ... and the supply is low again. -/
def rearmingLow : State := did (.vsupSample (some 2050)) rearming

/-- Door 1 in a phase with its switch made and both timers at their end. -/
def doorIn (q : Phase) : State :=
  stop.setDoor .d1 { shut with phase := q, phaseTimer := some 0, proofTimer := some 0 }

def brokenIn (q : Phase) : State := stop.setDoor .d1 { shut with phase := q, closed := .broken }

/-- Door 1 after n samples that contradict its made switch. -/
def brokenAfter (n : Nat) : State := stop.setDoor .d1 { shut with closedCount := n }

def forcedOpen (d : Door) : State := stop.setDoor d { shut with phase := .opened, forced := true, proofTimer := some 0 }

def raisedMode : State := did (.heightModeRaised .f [1#8]) stop

/-- P_HEIGHT_RAISED is not published. -/
def shutRaise : State := stop.withCiu { stop.ciu with perms := { stop.ciu.perms with heightRaised := false } }

/-- The kneel in a state, with its corners behind and its timers at their end. -/
def kneelIn (k : KneelState) : State :=
  kneeling.withKns { kneeling.kns with state := k, behind := 0x2A#6, lowering := some 0, raising := some 0 }

/-- P_KNEEL is not published. -/
def refused (s : State) : State := s.withCiu { s.ciu with perms := { s.ciu.perms with kneel := false } }

/-- LOWERING at a twist, the front ahead of the rear. -/
def twisted (v : Int) : State :=
  kneeling.withImage { image with hgt := ⟨ok 0, ok (-400), ok 0, ok (-400), ok 0, ok (-100)⟩, twist := ok v }

/-- Every kneeling corner is at its target. -/
def arrived (k : KneelState) : State :=
  ((kneelIn k).withLvu { kneeling.lvu with target := .fill 0 }).setDoor .d2 shut

/-- Captured inputs with errors of 101, 100 and 101; axle B is known to deviate, axle C's timer runs. -/
def modulating : State :=
  { stop with
    bdu := { stop.bdu with
      work := some ⟨⟨401, 400, 401⟩, .fill (ok 300), .fill false, .run, prm.brake⟩, deviation := ⟨none, none, some 7⟩,
      deviating := ⟨false, true, false⟩ }
    pfu := { stop.pfu with group := stop.pfu.group.set .brk ⟨false, none, true, 0#16⟩ } }

def starving (g : FrameGroup) : State :=
  stop.withPfu { stop.pfu with group := stop.pfu.group.set g ⟨false, none, true, 0#16⟩ }

/-- CENTRING with the timers running and both reports open. -/
def centring (n : Nat) : State :=
  stop.withSju { stop.sju with
    state := .centring, settle := some n, centring := some n, tracking := some n, centringTimeout := true,
    trackingError := true }

def jointing : State := stop.withSju { stop.sju with work := some ⟨ok 4200, ok (-3000), true, prm.steer⟩ }

/-- The fields of a valid profile, section by section, two bytes each (R196, R197 and the sections' tables). -/
def profileFields : List (List Int) :=
  [(List.replicate 24 [0, 4095, 0, 1024]).flatten ++ [200, 50, 500, 500, 500, 0, 0, 0, 0],
   (List.replicate 16 [255, 0, 0, 0]).flatten, 1 :: [2, 64, 65, 104] ++ List.replicate 188 0, [63, 7, 56],
   List.replicate 36 0 ++ List.replicate 12 1 ++ [10, 10, 5, 5, 5, 0, 100, 0, 0, 20, 20, 3000, 3000, 50, 0],
   [2000, 2000, 2000, 205, 205, 205, 300, 300, 300, 5, 1, 1, 1, 1, 1, 1, 5],
   [500] ++ [0, 1, 2, 3, 4, 5, 6, 7] ++ List.replicate 8 0 ++ [1, 0, 1, 1, 0, 0, 0, 0, 0, 0],
   0 :: (List.replicate 20 [0, 0, 0, 255]).flatten, [], [100, 0, 0, 300, 10, 10], [50, 60, 70, 255, 1, 2]]

/-- The bytes of a profile's fields. -/
def bytesOf (fields : List (List Int)) : Memory :=
  ((List.range profileSize).zip (fields.map fun l => (l.map byte2).flatten).flatten).filter (·.2 ≠ 0#8)

/-- A valid profile. -/
def good : Memory := bytesOf profileFields

/-- A valid profile in which the first channel selects all four sources, with the scratch bit 88 as its index. -/
def selective : Memory :=
  bytesOf (profileFields.set 7 (0 :: [1, 1, 1, 88] ++ (List.replicate 19 [0, 0, 0, 255]).flatten))

/-- holdFloor_A above p_max_A. -/
def floorHigh : Memory := good.writeBytes 1106 (byte2 301)

/-- Dmax 1000 beside a deadTime of 1. -/
def dutyHigh : Memory := (good.writeBytes 932 (byte2 1000)).writeBytes 944 (byte2 1)

/-- CONFIG with the valid profile, port F's confirmation, and idle channels. -/
def confirmed : State :=
  { config with
    pfs := { config.pfs with profile := good, confirmF := true }
    pfu := PulseUnit.reset }

/-- RUN with a recorded check word. -/
def recordedAs (word : BitVec 16) : State := stop.withPfs { stop.pfs with recorded := word }


/-- A reset has met a transaction of port F; the line is released. -/
def cutStop : State := stop.withRst ⟨false, true, ⟨true, false, false⟩⟩

/-- FAULTED, with all that the way out asks for. -/
def faulted : State := stop.withSju { stop.sju with state := .faulted }

/-- CENTRING with both reports open, and no lock cause left. -/
def freed : State := ride.withSju (centring 1).sju

/-- START, all else as it was. -/
def started (s : State) : State := s.withPfs { s.pfs with mode := .start }

/-- LOWERING with every corner at its target, autoRaise, and one door RELEASED whose permission the boundary's event
withdraws. -/
def lastDoor : State :=
  let s := (arrived .lowering).setDoor .d1 { shut with phase := .released, phaseTimer := some 1000 }
  { s with
    sa := { s.sa with image := { s.sa.image with vspd := ok 400 } }
    prm := { s.prm with kneel := { s.prm.kneel with autoRaise := true } } }

/-- The wheels are about to be found at 1000. -/
def faster (s : State) : State := s.withSa { s.sa with usTime := 20000, pulses := .fill ⟨some 15000, some 10000⟩ }

def fasterOut : State := faster (stop.setDoor .d1 { shut with phase := .released, phaseTimer := some 1000 })

def releasing : State := did (.holdRelease .f [1#8]) stop

/-- The joint channel selects the source 65. -/
def selecting : State :=
  { stop with prm := { prm with frames := ⟨20, .ofFn fun _ => ⟨false, false, false, some 65⟩⟩ } }

/-- The ratios that the LOAD records give. -/
def laden : State := stop.withBdu { stop.bdu with ratio := ⟨624, 624, 520⟩ }

/-- No LOAD record is usable. -/
def unladen : State := stop.withImage { image with load := .fill { ok 0 with validity := .lost } }

/-- ART and RST LOST and in disagreement; ART_RATE at one validity and its history at the other. -/
def pairLost (rate : Bool) : State :=
  let lost : Rec := { ok 0 with validity := .lost }
  stop.withSa { stop.sa with
    artDisagree := true, rstDisagree := true
    artHist := List.replicate 11 ⟨0, if rate then .lost else .fresh, .primary⟩
    image := { image with art := lost, rst := lost, artRate := if rate then ok 0 else lost } }

/-- A PORT-R speed at the end of its validity. -/
def spoken : State := stop.withSa { stop.sa with portSpeedLeft := some 0 }

/-- Door 1 is open above the speed of DOOR_OPEN_MOVING. -/
def moving : State := (forcedOpen .d1).withImage { image with vspd := ok 1000 } |>.setDoor .d1 { shut with
  phase := .opened, forced := true, moving := true, proofTimer := some 0 }

/-- HELD corners and wheels with VSPD LOST. -/
def unspeeded : State :=
  (cornersAt .held).withImage { (cornersAt .held).sa.image with vspd := { ok 0 with validity := .lost } }

/-- RAISED mode on the PORT-R speed alone. -/
def raisedAlone : State := raisedMode.withSa oneHeld.sa

/-- Slot 1 doubts a FRESH record. -/
def doubting : State := stop.withCiu { stop.ciu with latches := 2#16 }

/-- The hold is about to be reached, and the joint channel, in one state, selects HOLD_APPLIED. -/
def awaiting (c : ChanState) : State :=
  let s := applying stop
  { s with
    prm := { prm with frames := ⟨20, .ofFn fun k => ⟨false, false, false, if k = .joint then some 66 else none⟩⟩ }
    pfu := { s.pfu with chan := s.pfu.chan.set .joint ⟨c, none, 0, decide (c = .armed), false, false⟩ } }

/-- The profile `selective` is confirmed by one port. -/
def choosing : State := { confirmed with pfs := { confirmed.pfs with profile := selective } }

/-- Door 1 is RELEASED, door 3 open with its switch made, and only what the floors allow is published. -/
def doorsOut : State :=
  let s := stop.setDoor .d1 { shut with phase := .released, phaseTimer := some 1000 }
  let t := s.setDoor .d3 { shut with phase := .opened, proofTimer := none }
  t.withCiu { t.ciu with perms := { t.ciu.perms with holdRelease := false } }

theorem witness_StepRunsTheFrontCommand :
    (queue (.nop .f []) stop).pending = [.nop .f []] := by
  decide +kernel

theorem witness_OneMillisecondPasses :
    stop.pending = [] ∧
    stop.rst.low = false ∧
    ¬ 1 < (stop.bdu.demandOf .service).left ∧
    1 < (demanding.bdu.demandOf .service).left ∧
    1 < (demanding.bdu.demandOf .intervention).left ∧
    demanding.pending = [] ∧
    demanding.rst.low = false := by
  decide +kernel

theorem witness_ResetEventsTakeTheDeviceToReset :
    portOf .steerUpdate = none ∧
    Instr.steerUpdate ∉ [Instr.powerOn, .rstN, .rstNAsserted] ∧
    (did .rstNAsserted stop).pending = [] ∧
    stop.rst.low = false ∧
    (did .rstNAsserted stop).rst.low = true ∧
    (did .rstNAsserted (did (.transactionStart .f) stop)).rst.cut = ⟨true, false, false⟩ ∧
    cutStop.rst.cut.get .f = true ∧
    cutStop.rst.low = false ∧
    cutStop.rst.cut.get .b = false ∧
    (did .rstNAsserted stop).rst.cut.get .f = false ∧
    frameOfCommand (.nop .f []) = some (.f, 0x00#8, []) := by
  decide +kernel

theorem witness_ResetLeavesTheStatedValues :
    State.reset = State.resetWith .power ⟨false, false, .fill false⟩ [] ∧
    did .rstN (did .rstNAsserted stop) = State.resetWith .line ⟨false, false, .fill false⟩ [] := by
  decide +kernel

theorem witness_FaultListStaysSound :
    (did .startUpTimerExpiry State.reset).faultsSound = true ∧
    (did .startUpTimerExpiry State.reset).pfs.faults.length = 24 ∧
    steps (queue (.vsupSample none) (did .startUpTimerExpiry State.reset)) = true ∧
    steps (queue (.vsupSample (some 2050)) stop) = true ∧
    stop.faultsSound = true := by
  decide +kernel

theorem witness_KneelSetStaysWithinLevellingSet :
    kneeling.masksSound = true ∧
    kneeling.lvu.kneelSet ≠ 0#6 ∧
    steps (queue (.setMask .f [2#8, 0x15#8, 255#8]) kneeling) = true := by
  decide +kernel

theorem witness_NoPermissionStandsAgainstItsFloor :
    stop.floorsSound = true ∧
    steps (queue (.nop .f []) stop) = true ∧
    (after (step (queue (.nop .f []) stop))).ciu.perms.door.get .d1 = true := by
  decide +kernel

theorem witness_SteerIsFreeOnlyWithoutLockCause :
    ride.freeSound = true ∧
    steps (queue .steerUpdate ride) = true ∧
    (after (step (queue .steerUpdate ride))).sju.state = .free := by
  decide +kernel

theorem witness_KneelKeepsTheSteerLocked :
    kneeling.floorsSound = true ∧
    kneeling.kneelSteerSound = true ∧
    kneeling.kns.state ≠ .ride ∧
    steps (queue .steerUpdate kneeling) = true := by
  decide +kernel

theorem witness_CommandedAngleIsZeroWhenLockedOrFaulted :
    stop.angleSound = true ∧
    stop.sju.state = .locked ∧
    steps (queue .steerUpdate stop) = true ∧
    steering.angleSound = true ∧
    (did .trackingTimerExpiry (steering.withSju { steering.sju with tracking := some 0 })).sju.state = .faulted := by
  decide +kernel

theorem witness_ProfileStaysCanonicalWithinItsBytes :
    config.profileSound = true ∧
    steps (queue (.profileWrite .b [9#8, 0#8, 0#8, 0x12#8, 0x34#8]) config) = true ∧
    (did (.profileWrite .b [9#8, 0#8, 0#8, 0x12#8, 0x34#8]) config).profileSound = true := by
  decide +kernel

theorem witness_ProfileStaysCanonicalWithinItsBytes_floor :
    failingSection floorHigh = some 9 ∧
    param floorHigh 9 0 = 301 ∧
    param floorHigh 5 6 = 300 := by
  decide +kernel

theorem witness_ProfileStaysCanonicalWithinItsBytes_duty :
    failingSection dutyHigh = some 6 ∧
    param dutyHigh 6 21 = 1000 ∧
    param dutyHigh 7 0 = 1 := by
  decide +kernel

theorem witness_HoldFloorsFitTheHoldState :
    stop.holdSound = true ∧
    ride.holdSound = true ∧
    steps (queue (.holdRelease .f [1#8]) stop) = true ∧
    (did (.holdRelease .f [1#8]) stop).holdSound = true ∧
    steps (queue (.frameBoundary .brk .holdFirst) (did (.holdRelease .f [1#8]) stop)) = true := by
  decide +kernel

theorem witness_HoldReleasesOnlyWhenTheStopIsUndone :
    stop.shc.state ≠ .releasing ∧
    steps (queue (.holdRelease .f [1#8]) stop) = true ∧
    (after (step (queue (.holdRelease .f [1#8]) stop))).shc.state = .releasing := by
  decide +kernel

theorem witness_DoorIsReleasedOnlyUnderItsPermission :
    stop.floorsSound = true ∧
    steps (queue (.doorOpen .b [0#8, 4#8]) stop) = true ∧
    (stop.dcu.get .d4).phase ≠ .released ∧
    ((after (step (queue (.doorOpen .b [0#8, 4#8]) stop))).dcu.get .d4).phase = .released := by
  decide +kernel

theorem witness_KneelLeavesRideOnlyHeldAndLocked :
    stop.floorsSound = true ∧
    stop.kns.state = .ride ∧
    steps (queue (.kneel .b [0#8, 1#8]) stop) = true ∧
    (after (step (queue (.kneel .b [0#8, 1#8]) stop))).kns.state ≠ .ride := by
  decide +kernel

theorem witness_ChannelArmsOnlyAtBoundaryOrRunEntry :
    (rearming.pfu.chan.get (.inlet .a)).state ≠ .armed ∧
    steps (queue (.frameBoundary .brk .captureFirst) rearming) = true ∧
    ((after (step (queue (.frameBoundary .brk .captureFirst) rearming))).pfu.chan.get (.inlet .a)).state = .armed := by
  decide +kernel

theorem witness_ModeChangesOnlyAsTheSpecAllows :
    steps (queue (.enterSafe .f []) stop) = true ∧
    (after (step (queue (.enterSafe .f []) stop))).pfs.mode ≠ stop.pfs.mode ∧
    (after (step (queue .startUpTimerExpiry State.reset))).pfs.mode = .config ∧
    (after (step (queue .powerOn stop))).pfs.mode = .start := by
  decide +kernel

theorem witness_ProfileBytesChangeOnlyInConfig :
    steps (queue (.profileWrite .b [9#8, 0#8, 0#8, 0x12#8, 0x34#8]) config) = true ∧
    (after (step (queue (.profileWrite .b [9#8, 0#8, 0#8, 0x12#8, 0x34#8]) config))).pfs.profile ≠
      config.pfs.profile := by
  decide +kernel

theorem witness_SetpointsLieBetweenFloorAndLimit :
    stop.holdSound = true ∧
    stop.loaded = true ∧
    0 ≤ stop.bdu.ratio.get .c ∧
    0 ≤ stop.shc.floor.get .c ∧
    0 ≤ stop.prm.hold.floor.get .c ∧
    stop.prm.hold.floor.get .c ≤ stop.prm.brake.pMax.get .c ∧
    stop.shc.state = .applied := by
  decide +kernel

theorem witness_ReactionsActOnlyOnWhatTheEventAsserted_passes :
    (State.reset.dcu.get .d1).phase = .unsettled ∧
    ((finish State.reset (doorSettle .d1 false State.reset)).dcu.get .d1).phase = .opened ∧
    stop.settled stop = true ∧
    stop.stateBits ≠ (finish stop (raiseFault .portSilent 2 stop)).stateBits ∧
    stop.conds ≠ (settleRequests stop (rideAt 5000)).conds ∧
    (∃ p ∈ ride.floors.members.zip (settleRequests ride stop).floors.members, p = (false, true)) ∧
    passing.ciu.pass.isSome = true ∧
    passing.stateBits ≠ (finish passing (raiseFault .portSilent 2 passing)).stateBits ∧
    stop.stateBits = (finish stop stop).stateBits ∧
    stop.conds = (finish stop stop).conds ∧
    stop.settled (stop.withPfs { stop.pfs with timeMs := 1 }) = true := by
  decide +kernel

theorem witness_ReactionsActOnlyOnWhatTheEventAsserted_steer :
    (rideAt 5000).sju.state = .free ∧
    (rideAt 5000).lockCaused = true ∧
    ride.sju.state = .free ∧
    ride.lockCaused = false ∧
    stop.sju.state = .locked ∧
    stop.lockCaused = true ∧
    ((ride.withSju { ride.sju with state := .locked })).lockCaused = false ∧
    (freed.sju.state = .centring ∧ freed.lockCaused = false ∧ freed.sju.centringTimeout = true ∧
      freed.sju.trackingError = true) ∧
    faulted.sju.state = .faulted ∧
    faulted.sa.image.rst.validity ≠ .lost ∧
    faulted.pfu.chan.bridge.state = .armed ∧
    faulted.lockCaused = true ∧
    faulted.kns.state = .ride ∧
    faulted.centringDue = true ∧
    (ride.withSju { ride.sju with state := .faulted }).lockCaused = false ∧
    (finish ride ride).sju.state = .free ∧
    (finish stop stop).sju.state = .locked := by
  decide +kernel

theorem witness_HeightAndBellowsSamplesSettleTheirRecords :
    (cornersAt .substituted).sa.image.twist.validity ≠ .lost ∧
    (did (.heightSample (.fill none)) (cornersAt .substituted)).sa.image.twist.validity = .lost ∧
    (cornersAt .lost).sa.image.twist.validity = .lost ∧
    (did (.heightSample (.fill (some 2048))) (cornersAt .lost)).sa.image.twist.validity ≠ .lost ∧
    (cornersAt .substituted).sa.image.load.a.validity ≠ .lost ∧
    (did (.bellowsSample (.fill none)) (cornersAt .substituted)).sa.image.load.a.validity = .lost ∧
    (did (.bellowsSample (.fill (some 500))) unladen).sa.image.load.a.validity ≠ .lost ∧
    unladen.sa.image.load.a.validity = .lost ∧
    stop.rst.low = false ∧
    (stop.prm.signals.hgt.get .al).rawLow = 0 ∧
    (stop.prm.signals.hgt.get .al).rawHigh = 4095 ∧
    (stop.sa.image.hgt.get .al).validity = .fresh ∧
    (cornersAt .held).sa.image.hgt.al.validity = .held ∧
    (cornersAt .substituted).sa.image.hgt.al.validity = .substituted ∧
    (cornersAt .lost).sa.image.hgt.al.validity = .lost ∧
    (did (.heightSample ⟨none, some 4095, none, none, none, none⟩) (cornersAt .lost)).sa.image.hgt.ar.validity =
      .fresh ∧
    (did (.heightSample (.fill none)) (cornersAt .lost)).sa.image.hgt.ar.validity = .lost ∧
    (stop.prm.signals.prs.get .al).rawLow = 0 ∧
    (stop.prm.signals.prs.get .al).rawHigh = 4095 ∧
    (stop.sa.image.prs.get .al).validity = .fresh ∧
    (cornersAt .held).sa.image.prs.al.validity = .held ∧
    kneeling.kns.freeze = true ∧
    (cornersAt .lost).kns.freeze = false ∧
    (cornersAt .substituted).sa.image.prs.al.validity = .substituted ∧
    (cornersAt .lost).sa.image.prs.al.validity = .lost ∧
    (did (.bellowsSample ⟨none, some 4095, none, none, none, none⟩) (cornersAt .lost)).sa.image.prs.ar.validity =
      .fresh ∧
    (did (.bellowsSample (.fill none)) (cornersAt .lost)).sa.image.prs.ar.validity = .lost ∧
    ((cornersAt .lost).sa.image.prs.get Axle.a.left).validity ≠ ((did (.bellowsSample (.fill (some 0))) (cornersAt
      .lost)).sa.image.prs.get Axle.a.left).validity ∧
    ((cornersAt .lost).sa.image.hgt.get .al).validity ≠ ((did (.heightSample (.fill (some 0))) (cornersAt
      .lost)).sa.image.hgt.get .al).validity ∧
    ((cornersAt .substituted).sa.image.hgt.get .al).validity ≠ .lost ∧
    ((did (.heightSample (.fill none)) (cornersAt .substituted)).sa.image.hgt.get .al).validity = .lost ∧
    (cornersAt .substituted).pfs.mode ≠ .start ∧
    ((cornersAt .substituted).sa.image.prs.get .al).validity ≠ .lost ∧
    ((did (.bellowsSample (.fill none)) (cornersAt .substituted)).sa.image.prs.get .al).validity = .lost := by
  decide +kernel

theorem witness_WheelAndSupplySamplesSettleTheirRecords :
    (cornersAt .lost).sa.image.vspd.validity ≠ .lost ∧
    (did (.wheelSpeedEvaluation ((PerWheel.fill true).set .al false) 0) (cornersAt .lost)).sa.image.vspd.validity =
      .lost ∧
    unspeeded.sa.image.vspd.validity = .lost ∧
    (did (.wheelSpeedEvaluation (.fill false) 0) unspeeded).sa.image.vspd.validity ≠ .lost ∧
    pulsed.shc.creep = false ∧
    pulsed.sa.image.vspd.changed (did (.wheelSpeedEvaluation (.fill false) 0) pulsed).sa.image.vspd = true ∧
    (did (.wheelSpeedEvaluation (.fill false) 0) pulsed).shc.creep = true ∧
    stop.sa.image.vspd.changed (did (.wheelSpeedEvaluation (.fill false) 0) stop).sa.image.vspd = false ∧
    stop.rst.low = false ∧
    (stop.sa.pulses.get .al).lastEdge = none ∧
    (pulsed.sa.pulses.get .al) = ⟨some 15000, some 10000⟩ ∧
    pulsed.sa.usTime + 0 - 15000 ≤ 1000000 ∧
    1000000 < (pulsed.sa.usTime + 1000001) - pulsed.sa.usTime ∧
    pulsed.prm.signals.wsp.al.rawLow ≤ 0 ∧
    0 ≤ pulsed.prm.signals.wsp.al.rawHigh ∧
    ¬ ((narrow.prm.signals.wsp.get .al).rawLow ≤ (0 : Int)) ∧
    (narrow.sa.pulses.get .al).lastEdge = none ∧
    (cornersAt .lost).sa.image.wsp.al.validity = .lost ∧
    (∃ w ∈ Wheel.all, ((cornersAt .lost).sa.image.wsp.get w).validity ≠ ((did (.wheelSpeedEvaluation (.fill false)
      0) (cornersAt .lost)).sa.image.wsp.get w).validity) ∧
    2 ≤ (Wheel.all.filter fun w => ((did (.wheelSpeedEvaluation (.fill false) 0) (cornersAt .lost)).sa.image.wsp.get
      w).usable).length ∧
    (∀ w ∈ Wheel.all, 0 ≤ ((cornersAt .lost).sa.image.wsp.get w).value) ∧
    (did (.wheelSpeedEvaluation (.fill false) 0) stop).sa.image.wsp = stop.sa.image.wsp ∧
    stop.prm.signals.vsup.rawLow ≤ 0 ∧
    4095 ≤ stop.prm.signals.vsup.rawHigh ∧
    stop.sa.image.vsup.validity = .fresh := by
  decide +kernel

theorem witness_PairSamplesFollowThePairRule :
    (pairLost true).sa.artDisagree = true ∧
    (pairLost true).sa.image.art.validity = .lost ∧
    (pairLost true).sa.image.rst.validity = .lost ∧
    (did (.pairSample (.fill (some 300)) (some 2048) (some 2048) (some 2048) (some 2048)) (pairLost
      true)).sa.image.art.validity ≠ .lost ∧
    (pairLost true).sa.image.artRate.validity ≠ .lost ∧
    (did (.pairSample (.fill (some 300)) (some 2048) (some 2048) (some 2048) (some 2048)) (pairLost
      true)).sa.image.artRate.validity = .lost ∧
    (pairLost false).sa.image.artRate.validity = .lost ∧
    (did (.pairSample (.fill (some 300)) (some 2048) (some 2048) (some 2048) (some 2048)) (pairLost
      false)).sa.image.artRate.validity ≠ .lost ∧
    stop.rst.low = false ∧
    convert (stop.prm.signals.brp.get .a) 0 1000 (some 4095) = some 1000 ∧
    convert (stop.prm.signals.brp.get .a) 0 1000 none = none ∧
    convert stop.prm.signals.art1 (-5500) 5500 (some 2048) = some 0 ∧
    convert stop.prm.signals.art2 (-5500) 5500 (some (2048 + 200)) = some 200 ∧
    stop.prm.signals.artTol = 200 ∧
    convert stop.prm.signals.art2 (-5500) 5500 (some 2249) = some 201 ∧
    convert stop.prm.signals.art1 (-5500) 5500 none = none ∧
    convert stop.prm.signals.rst1 (-1200) 1200 (some 2048) = some 0 ∧
    convert stop.prm.signals.rst2 (-1200) 1200 (some 2048) = some 0 ∧
    stop.sa.artDisagree = false ∧
    (did (.pairSample (.fill none) (some 0) (some 4095) none none) stop).sa.artDisagree = true ∧
    stop.sa.image.art.validity = .fresh := by
  decide +kernel

theorem witness_HoldTimersAndSpeedValidityRunOut :
    oneHeld.sa.image.vspd.validity ≠ .lost ∧
    (did .portRSpeedExpiry oneHeld).sa.image.vspd.validity = .lost ∧
    oneHeld.pfs.mode ≠ .start ∧
    (speedLost spoken).sa.image.vspd.validity = .lost ∧
    (speedLost spoken).sa.portSpeedLeft.isSome = true ∧
    (did .portRSpeedExpiry (speedLost spoken)).sa.image.vspd.validity ≠ .lost ∧
    stop.rst.low = false ∧
    ((cornersAt .held).sa.image.sampledRec (.hgt .al)).validity = .held ∧
    ((cornersAt .held).sa.image.sampledRec (.hgt .al)).hold.isSome = true ∧
    ((cornersAt .held).sa.image.substituteOf (.hgt .al)).map (·.validity) = some .held ∧
    (cornersAt .lost).sa.image.substituteOf (.hgt .al) = some { ok 0 with validity := .lost } ∧
    (oneHeld.sa.image.sampledRec (.hgt .al)).validity = .held ∧
    (oneHeld.sa.image.sampledRec (.hgt .al)).hold.isSome = true ∧
    (∀ o ∈ oneHeld.sa.image.substituteOf (.hgt .al), o.validity ≠ .fresh ∧ o.validity ≠ .held) ∧
    oneHeld.sa.image.art.validity = .held ∧
    oneHeld.sa.image.art.hold.isSome = true ∧
    oneHeld.sa.artHist ≠ [] ∧
    oneHeld.sa.image.rst.validity = .held ∧
    oneHeld.sa.image.rst.hold.isSome = true ∧
    oneHeld.sa.portSpeedLeft.isSome = true ∧
    (Wheel.all.filter fun w => (oneHeld.sa.image.wsp.get w).usable).length < 2 ∧
    oneHeld.cp.driveLeft.isSome = true ∧
    oneHeld.rst.low = false ∧
    oneHeld.pfs.mode ≠ .start ∧
    (started oneHeld).pfs.mode = .start ∧
    (started oneHeld).rst.low = false ∧
    (started oneHeld).sa = oneHeld.sa := by
  decide +kernel

theorem witness_DerivedRecordsFollowTheirFormulas :
    (image.prs.get Axle.a.left).validity ≠ .lost ∧
    (image.prs.get Axle.a.right).validity ≠ .lost ∧
    ((cornersAt .lost).sa.image.prs.get Axle.a.left).validity = .lost ∧
    (∀ i ∈ Corner.all, (image.hgt.get i).validity ≠ .lost) ∧
    (∃ i ∈ Corner.all, ((cornersAt .lost).sa.image.hgt.get i).validity = .lost) ∧
    stop.sa.artHist = ⟨0, .fresh, .primary⟩ :: (List.replicate 9 ⟨0, .fresh, .primary⟩ ++ [⟨0, .fresh, .primary⟩]) ∧
    (∀ e ∈ stop.sa.artHist, e.validity ≠ .lost) ∧
    (∃ e ∈ (did (.pairHoldTimerExpiry .art) oneHeld).sa.artHist, e.validity = .lost) ∧
    (did (.pairHoldTimerExpiry .art) oneHeld).sa.artHist.length = 11 ∧
    State.reset.sa.artHist.length < 11 ∧
    (Wheel.all.filter fun w => (oneHeld.sa.image.wsp.get w).usable).length < 2 ∧
    oneHeld.sa.portSpeedLeft = some 0 ∧
    (cornersAt .lost).sa.portSpeedLeft = none ∧
    (Wheel.all.filter fun w => ((cornersAt .lost).sa.image.wsp.get w).usable).length < 2 ∧
    2 ≤ (Wheel.all.filter fun w => (stop.sa.image.wsp.get w).usable).length ∧
    (∀ w ∈ Wheel.all, 0 ≤ (stop.sa.image.wsp.get w).value) := by
  decide +kernel

theorem witness_CompareFieldsAndTermsFollowTheirRules :
    stop.slot? 0 = some ⟨some 21, 100, 100, false⟩ ∧
    stop.slot? 15 = some ⟨none, 0, 0, false⟩ ∧
    (stop.sa.image.byId 21).validity ≠ .lost ∧
    (State.reset.sa.image.byId 21).validity = .lost ∧
    unsampled.slot? 0 = some ⟨some 21, 100, 100, false⟩ ∧
    (unsampled.sa.image.byId 21).validity = .lost ∧
    88 ≤ (⟨0, 0, 0, 88⟩ : Term).target ∧
    (⟨0, 0, 0, 88⟩ : Term).target < 88 + [false].length := by
  decide +kernel

theorem witness_PassEndPublishesFlooredResults :
    stop.rst.low = false ∧
    stop.ciu.pass = none ∧
    passing.ciu.pass = some passing.newPass ∧
    passing.ciu.again = true ∧
    passing.rst.low = false := by
  decide +kernel

theorem witness_ClearingCommandsClearWhatTheyMay :
    (did (.clearFault .f [2#8, 2#8]) (endFault .portSilent 2 (raiseFault .portSilent 2 stop))).pfs.faults = [] ∧
    (did (.clearFault .f [2#8, 2#8]) (raiseFault .portSilent 2 stop)).pfs.faults ≠ [] ∧
    (did (.clearDoubt .f [0#8, 2#8]) doubting).ciu.latches ≠ doubting.ciu.latches ∧
    (did (.clearDoubt .f [0#8, 0#8]) doubting).ciu.latches = doubting.ciu.latches ∧
    doubting.hears .f = true ∧
    doubting.pfs.mode = .run ∧
    stop.rst.low = false ∧
    stop.hears .f = true ∧
    stop.hears .r = true ∧
    stop.hears .b = true ∧
    stop.pfs.mode = .run ∧
    hasFlag (256 * (0#8).toNat + (2#8).toNat) 1 = true ∧
    hasFlag (256 * (0#8).toNat + (2#8).toNat) 0 = false ∧
    stop.slot? 1 = some ⟨some 15, 0, 1500, true⟩ ∧
    (stop.sa.image.byId 15).validity = .fresh ∧
    (oneHeld.sa.image.byId 15).validity ≠ .fresh ∧
    oneHeld.pfs.mode = .run ∧
    15 < (16#8).toNat ∧
    (16#8).toNat ≠ 255 ∧
    ¬ (15 < (15#8).toNat ∧ (15#8).toNat ≠ 255) := by
  decide +kernel

theorem witness_HoldApplyEntersApplyingOrSaysWhyNot :
    stop.rst.low = false ∧
    stop.hears .f = true ∧
    stop.hears .r = true ∧
    stop.hears .b = true ∧
    stop.pfs.mode = .run ∧
    ride.pfs.mode = .run ∧
    ride.hears .f = true ∧
    ride.shc.state = .released ∧
    ride.sa.image.vspd.validity ≠ .lost ∧
    ride.sa.image.vspd.value ≤ ride.prm.hold.entrySpeed ∧
    (rideAt 300).sa.image.vspd.value ≤ (rideAt 300).prm.hold.entrySpeed ∧
    (rideAt 301).shc.state = .released ∧
    (rideAt 301).prm.hold.entrySpeed < (rideAt 301).sa.image.vspd.value ∧
    (speedLost ride).shc.state = .released ∧
    (speedLost ride).sa.image.vspd.validity = .lost ∧
    (did (.holdRelease .f [1#8]) stop).shc.state = .releasing ∧
    stop.shc.state = .applied ∧
    0 < stop.prm.hold.floor.get .a := by
  decide +kernel

theorem witness_HoldReleaseNeedsTheStopUndone :
    stop.rst.low = false ∧
    stop.hears .f = true ∧
    stop.hears .r = true ∧
    stop.hears .b = true ∧
    stop.pfs.mode = .run ∧
    stop.shc.state = .applied ∧
    stop.allShut = true ∧
    stop.kns.state = .ride ∧
    stop.ciu.perms.holdRelease = true ∧
    kneeling.shc.state = .applied ∧
    kneeling.pfs.mode = .run ∧
    ¬ (kneeling.allShut = true ∧ kneeling.kns.state = .ride ∧ kneeling.ciu.perms.holdRelease = true) ∧
    (applying stop).shc.state = .applying ∧
    ride.shc.state = .released ∧
    ride.pfs.mode = .run ∧
    creeping.shc.creep = true ∧
    creeping.shc.notReached.get .b = true ∧
    creeping.shc.state = .applied ∧
    creeping.allShut = true := by
  decide +kernel

theorem witness_HoldTimersAndSpeedUpdatesMoveTheHold :
    stop.rst.low = false ∧
    (applying stop).shc.applying.isSome = true ∧
    (applying stop).rst.low = false ∧
    0 < stop.prm.hold.floor.get .b ∧
    stop.shc.applying = none ∧
    stop.shc.quiet = none ∧
    stop.settled stop = true ∧
    creeping.shc.quiet.isSome = true ∧
    creeping.shc.creep = true ∧
    creeping.rst.low = false ∧
    (pendingApply.shc.pendingApply = true ∧ pendingApply.shc.state = .released ∧ pendingApply.sa.image.vspd.validity
      ≠ .lost ∧ pendingApply.sa.image.vspd.value ≤ pendingApply.prm.hold.entrySpeed) ∧
    creeping.shc.pendingApply = false ∧
    (stop.withImage { image with vspd := ok 51 }).shc.creep = false ∧
    (stop.withImage { image with vspd := ok 51 }).shc.state = .applied ∧
    50 < (stop.withImage { image with vspd := ok 51 }).sa.image.vspd.value ∧
    (creeping.withImage { image with vspd := ok 50 }).sa.image.vspd.value ≤ 50 ∧
    stop.shc.pendingApply = false ∧
    stop.shc.creep = false ∧
    ¬ (50 < stop.sa.image.vspd.value) := by
  decide +kernel

theorem witness_BrakeBoundaryTestsTheHoldAndCapturesItsInputs :
    (applying creeping).shc.state = .applying ∧
    (applying creeping).shc.notReached.get .b = true ∧
    (did (.frameBoundary .brk .holdFirst) (applying creeping)).shc.notReached.get .b = false ∧
    stop.rst.low = false ∧
    (applying stop).shc.state = .applying ∧
    (∀ x ∈ Axle.all, ((applying stop).sa.image.brp.get x).validity ≠ .lost ∧ stop.prm.hold.floor.get x -
      stop.prm.hold.tol ≤ ((applying stop).sa.image.brp.get x).value ∧ (applying stop).abandoned x = false) ∧
    stop.prm.hold.floor.get .b - stop.prm.hold.tol = 220 ∧
    0 < stop.prm.hold.floor.get .b ∧
    (did (.frameBoundary .brk .holdFirst) ((applying stop).withImage
      { image with brp := ⟨ok 300, ok 219, ok 300⟩ })).shc.state = .applying ∧
    (did (.frameBoundary .brk .holdFirst) ((applying stop).withImage
      { image with brp := ⟨ok 300, ok 220, ok 300⟩ })).shc.state = .applied ∧
    (did (.holdRelease .f [1#8]) stop).shc.state = .releasing ∧
    ride.shc.state = .released ∧
    (∀ x ∈ Axle.all, (stop.pfu.chan.inlet.get x).state ≠ .rearmPending ∧ (stop.pfu.chan.exhaust.get x).state ≠
      .rearmPending) ∧
    (did (.frameBoundary .brk .captureFirst) stop).bdu.work.isSome = true := by
  decide +kernel

theorem witness_BoundaryTakesTheCommitAndDrivesTheArmed :
    stop.rst.low = false ∧
    FrameGroup.lvl ≠ .str ∧
    FrameGroup.brk ≠ .lvl ∧
    (did (.frameBoundary .str .holdFirst) ride).sju.state ≠ .faulted ∧
    (did (.frameBoundary .str .holdFirst) (did (.trackingTimerExpiry) (ride.withSju
      { ride.sju with tracking := some 0 }))).sju.state = .faulted ∧
    (Chan.inlet .a).group = .brk ∧
    (Chan.fill .cr).group ≠ .brk ∧
    (stop.pfu.chan.get (.inlet .a)).state ≠ .rearmPending ∧
    (awaiting .armed).rst.low = false ∧
    (awaiting .armed).pfu.chan.joint.state = .armed ∧
    (did (.frameBoundary .brk .holdFirst) (awaiting .armed)).pfu.chan.joint.state = .tripped := by
  decide +kernel

theorem witness_RearmIsRequestedAndDecidedAtTheBoundary :
    (∀ k ∈ Chan.all.filter (fun k => (0x7F : Nat).testBit k.num), (stop.pfu.chan.get k).state ≠ .tripped ∧ k.group =
      .brk) ∧
    (Chan.all.filter fun k => (0 : Nat).testBit k.num) = [] ∧
    stop.rst.low = false ∧
    stop.hears .f = true ∧
    stop.hears .r = true ∧
    stop.hears .b = true ∧
    stop.pfs.mode = .run ∧
    tripped.hears .f = true ∧
    tripped.pfs.mode = .run ∧
    (tripped.pfu.chan.get (.inlet .a)).state = .tripped ∧
    (hear .f tripped).tripSource (.inlet .a) = none ∧
    ((hear .f lowSupply).tripSource (.inlet .a)).isSome = true ∧
    (lowSupply.pfu.chan.get (.inlet .a)).state = .tripped ∧
    lowSupply.pfs.mode = .run ∧
    (∀ k ∈ Chan.all.filter (fun k => (0x7F : Nat).testBit k.num), k.group = .brk) ∧
    (∃ k ∈ Chan.all.filter (fun k => (0x80 : Nat).testBit k.num), k.group ≠ .brk) ∧
    (rearming.pfu.chan.get (.inlet .a)).state = .rearmPending ∧
    rearming.rst.low = false ∧
    rearming.tripSource (.inlet .a) = none ∧
    (rearmingLow.pfu.chan.get (.inlet .a)).state = .rearmPending ∧
    rearmingLow.tripSource (.inlet .a) = some .vsupLow ∧
    (Chan.inlet .a).group ≠ .lvl ∧
    (rearming.selects (.inlet .a)).index = none ∧
    ((did (.frameBoundary .brk .holdFirst) rearming).pfu.chan.inlet.get .a).state = .armed ∧
    (awaiting .rearmPending).rst.low = false ∧
    (awaiting .rearmPending).pfu.chan.joint.state = .rearmPending ∧
    (awaiting .rearmPending).tripSource .joint = none ∧
    (did (.frameBoundary .brk .holdFirst) (awaiting .rearmPending)).pfu.chan.joint.state ≠ .armed := by
  decide +kernel

theorem witness_OutputsFollowTheActiveValueInsideAFrame :
    (State.reset.pfu.chan.get (.inlet .a)).driving = false ∧
    ((did (.frameBoundary .brk .holdFirst) stop).pfu.chan.inlet.get .a).driving = true ∧
    ((did (.frameBoundary .brk .holdFirst) stop).pfu.chan.exhaust.get .c).driving = true ∧
    (did (.frameBoundary .brk .holdFirst) stop).pfu.chan.joint.driving = true ∧
    ((did (.frameBoundary .lvl .holdFirst) stop).pfu.chan.fill.get .al).driving = true ∧
    ((did (.frameBoundary .lvl .holdFirst) stop).pfu.chan.vent.get .cr).driving = true ∧
    (did (.frameBoundary .str .holdFirst) ride).pfu.chan.bridge.driving = true ∧
    0 < ((did (.frameBoundary .str .holdFirst) (ride.withPfu
      { ride.pfu with active := { Values.zero with bridge := 1000 } }))).pfu.active.bridge ∧
    ((did (.frameBoundary .str .holdFirst) (ride.withPfu
      { ride.pfu with active := { Values.zero with bridge := -1 } }))).pfu.active.bridge < 0 ∧
    ((did (.frameBoundary .str .holdFirst) ride)).pfu.active.bridge = 0 ∧
    stop.prm.frames.deadTime ≤ 500 ∧
    (999 : Nat) < 1000 ∧
    1000 - stop.prm.frames.deadTime ≤ 999 := by
  decide +kernel

theorem witness_DoorCommandsOpenAndCloseAsTheSpecAllows :
    stop.rst.low = false ∧
    stop.hears .f = true ∧
    stop.hears .r = true ∧
    stop.hears .b = true ∧
    stop.pfs.mode = .run ∧
    (stop.dcu.get .d1).phase = .shut ∧
    stop.ciu.perms.door.get .d1 = true ∧
    (did (.holdRelease .f [1#8]) stop).shc.state = .releasing ∧
    ride.ciu.perms.door.get .d1 = false ∧
    (ride.dcu.get .d1).phase = .shut ∧
    ride.pfs.mode = .run ∧
    (∀ q ∈ [Phase.unsettled, .released, .opened, .closing, .obstructed], ((doorIn q).dcu.get .d1).phase = q ∧
      (doorIn q).pfs.mode = .run ∧ (doorIn q).hears .b = true) ∧
    ((doorIn .opened).dcu.get .d1).pressed = false ∧
    ((did (.edgeSwitchPress .d1) (doorIn .opened)).dcu.get .d1).pressed = true ∧
    ((did (.edgeSwitchPress .d1) (doorIn .opened)).dcu.get .d1).phase = .opened ∧
    (0#8).toNat = 0 ∧
    4 < (5#8).toNat := by
  decide +kernel

theorem witness_DoorSwitchEventsMoveTheDoor :
    (State.reset.dcu.get .d1).phase = .unsettled ∧
    (State.reset.withCiu { State.reset.ciu with pass := some State.reset.newPass }).ciu.pass.isSome = true ∧
    ((State.reset.withCiu { State.reset.ciu with pass := some State.reset.newPass }).dcu.get .d1).phase = .unsettled
      ∧
    stop.rst.low = false ∧
    (State.reset.dcu.get .d1).closed = .undetermined ∧
    State.reset.rst.low = false ∧
    (∀ q ∈ [Phase.shut, .opened, .closing, .obstructed], ((brokenIn q).dcu.get .d1).closed = .broken ∧ ((brokenIn
      q).dcu.get .d1).phase ≠ .released) ∧
    (∀ q ∈ [Phase.released, .opened, .closing, .obstructed], ((doorIn q).dcu.get .d1).closed = .made) ∧
    (stop.dcu.get .d1).closed = .made ∧
    (stop.dcu.get .d1).phase = .shut ∧
    (did (.holdRelease .f [1#8]) stop).shc.state = .releasing ∧
    (rideAt 300).shc.state = .released ∧
    (rideAt 300).sa.image.vspd.value ≤ (rideAt 300).prm.hold.entrySpeed ∧
    ¬ ((rideAt 301).sa.image.vspd.validity ≠ .lost ∧ (rideAt 301).sa.image.vspd.value ≤ (rideAt
      301).prm.hold.entrySpeed) ∧
    ((doorIn .closing).dcu.get .d1).pressed = false ∧
    ((doorIn .closing).dcu.get .d1).phase = .closing ∧
    ((did (.phaseTimerExpiry .d1) (doorIn .closing)).dcu.get .d1).proofTimeout = true ∧
    ((did (.phaseTimerExpiry .d1) (doorIn .closing)).dcu.get .d1).phase = .closing ∧
    ((doorIn .opened).dcu.get .d1).pressed = false ∧
    ((doorIn .opened).dcu.get .d1).phase = .opened ∧
    ((did (.edgeSwitchPress .d1) (doorIn .closing)).dcu.get .d1).pressed = true ∧
    ((did (.edgeSwitchPress .d1) (doorIn .closing)).dcu.get .d1).phase = .obstructed ∧
    ((did (.edgeSwitchPress .d1) (doorIn .opened)).dcu.get .d1).pressed = true ∧
    ((did (.edgeSwitchPress .d1) (doorIn .opened)).dcu.get .d1).phase = .opened := by
  decide +kernel

theorem witness_DoorTimersAndSamplesMoveTheDoor :
    stop.rst.low = false ∧
    ((doorIn .released).dcu.get .d1).phaseTimer.isSome = true ∧
    ((doorIn .released).dcu.get .d1).phase = .released ∧
    ((doorIn .closing).dcu.get .d1).phaseTimer.isSome = true ∧
    ((doorIn .closing).dcu.get .d1).proofTimer.isSome = true ∧
    ((doorIn .closing).dcu.get .d1).phase = .closing ∧
    ((doorIn .closing).dcu.get .d1).forced = false ∧
    ((did (.phaseTimerExpiry .d1) (doorIn .closing)).dcu.get .d1).proofTimeout = true ∧
    ((forcedOpen .d1).dcu.get .d1).forced = true ∧
    ((forcedOpen .d1).dcu.get .d1).phase = .opened ∧
    (stop.dcu.get .d1).closed = .made ∧
    (stop.dcu.get .d1).closedCount < 19 ∧
    ((brokenAfter 19).dcu.get .d1).closed = .made ∧
    19 ≤ ((brokenAfter 19).dcu.get .d1).closedCount ∧
    ((brokenAfter 18).dcu.get .d1).closedCount < 19 ∧
    (State.reset.dcu.get .d1).closed = .undetermined ∧
    ((stop.setDoor .d1 { shut with edgeCount := 8 }).dcu.get .d1).edgeCount < 9 ∧
    9 ≤ ((stop.setDoor .d1 { shut with edgeCount := 9 }).dcu.get .d1).edgeCount ∧
    (stop.dcu.get .d1).pressed = false := by
  decide +kernel

theorem witness_LevellingComputationFollowsItsFormulas :
    levelling.rst.low = false ∧
    levelling.lvu.work.isSome = true ∧
    (levelling.withPfu
      { levelling.pfu with group := levelling.pfu.group.set .lvl ⟨false, none, true, 0#16⟩ }).pfu.group.lvl.starved
      = true := by
  decide +kernel

theorem witness_HeightModeCommandsRewriteTheTargets :
    stop.lvu.heightMode = .normal ∧
    stop.hears .f = true ∧
    stop.pfs.mode = .run ∧
    stop.rst.low = false ∧
    stop.hears .f = true ∧
    stop.hears .r = true ∧
    stop.hears .b = true ∧
    stop.pfs.mode = .run ∧
    raisedMode.lvu.heightMode = .raised ∧
    raisedMode.pfs.mode = .run ∧
    raisedMode.hears .f = true ∧
    raisedMode.floorsSound = true ∧
    hasCorner raisedMode.lvu.kneelSet .al = false ∧
    stop.floorsSound = true ∧
    stop.lvu.heightMode = .normal ∧
    stop.ciu.perms.heightRaised = true ∧
    shutRaise.lvu.heightMode = .normal ∧
    shutRaise.ciu.perms.heightRaised = false ∧
    shutRaise.pfs.mode = .run ∧
    shutRaise.floorsSound = true ∧
    (did (.heightModeNormal .f [0#8]) stop).kns.state = stop.kns.state := by
  decide +kernel

theorem witness_SetMaskStoresAndCutsTheKneelSet :
    stop.rst.low = false ∧
    stop.hears .f = true ∧
    stop.hears .r = true ∧
    stop.hears .b = true ∧
    stop.pfs.mode = .run ∧
    (1#8).toNat < 2 ∧
    4 < (5#8).toNat ∧
    63 < (64#8).toNat ∧
    (12#8).toNat ≠ 255 ∧
    11 < (12#8).toNat ∧
    (¬ ((2#8).toNat < 2 ∨ 4 < (4#8).toNat ∨ 63 < (63#8).toNat ∨ ((11#8).toNat ≠ 255 ∧ 11 < (11#8).toNat))) ∧
    kneeling.pfs.mode = .run ∧
    hasCorner (kneeling.lvu.kneelSet &&& ~~~0x15#6) .ar = true ∧
    (did (.setMask .f [2#8, 0x15#8, 255#8]) kneeling).lvu.kneelSet = 0#6 ∧
    kneeling.kns.state ≠ .ride ∧
    (did (.setMask .f [2#8, 0x15#8, 255#8]) kneeling).lvu.heightMode = kneeling.lvu.heightMode ∧
    raisedMode.lvu.heightMode = .raised ∧
    hasCorner raisedMode.lvu.kneelSet .al = false := by
  decide +kernel

theorem witness_KneelCommandsMoveTheKneel :
    stop.rst.low = false ∧
    stop.hears .f = true ∧
    stop.hears .r = true ∧
    stop.hears .b = true ∧
    stop.pfs.mode = .run ∧
    stop.kns.state = .ride ∧
    stop.ciu.perms.kneel = true ∧
    stop.lvu.levelSet &&& (0x2A#6 &&& 0x03#6) ≠ 0#6 ∧
    ride.kns.state = .ride ∧
    ride.ciu.perms.kneel = false ∧
    ride.pfs.mode = .run ∧
    (did (.setMask .f [2#8, 0x15#8, 255#8]) stop).lvu.levelSet = 0x15#6 ∧
    (0x2A#6 : Corners) &&& 0x15#6 = 0#6 ∧
    (did (.setMask .f [2#8, 0x15#8, 255#8]) stop).ciu.perms.kneel = true ∧
    (kneelIn .paused).kns.state = .paused ∧
    (kneelIn .paused).ciu.perms.kneel = true ∧
    (kneelIn .paused).pfs.mode = .run ∧
    (kneelIn .paused).hears .b = true ∧
    (refused (kneelIn .paused)).kns.state = .paused ∧
    (refused (kneelIn .paused)).ciu.perms.kneel = false ∧
    kneeling.kns.state = .lowering ∧
    (kneelIn .knelt).kns.state = .knelt ∧
    (kneelIn .raising).kns.state = .raising ∧
    hasCorner kneeling.lvu.kneelSet .cr = true ∧
    kneeling.allShut = false ∧
    (kneeling.setDoor .d2 shut).allShut = true ∧
    (kneeling.setDoor .d2 shut).kns.state = .lowering ∧
    (did (.raise .b [2#8, 0#8]) (kneeling.setDoor .d2 shut)).lvu.heightMode = kneeling.lvu.heightMode := by
  decide +kernel

theorem witness_KneelTimersReportTheCornersBehind :
    kneeling.rst.low = false ∧
    kneeling.kns.lowering.isSome = true ∧
    kneeling.kns.state = .lowering ∧
    hasCorner ((kneelIn .raising).kns.behind &&& (kneelIn .raising).lvu.kneelSet) .cr = true ∧
    (kneelIn .raising).kns.raising.isSome = true ∧
    (kneelIn .raising).kns.state = .raising := by
  decide +kernel

theorem witness_LevelBoundaryTestsTheKneelAndLimitsTheTwist :
    kneeling.rst.low = false ∧
    kneeling.pfs.mode = .run ∧
    stop.kns.state = .ride ∧
    kneeling.kns.state = .lowering ∧
    (cornersAt .lost).sa.image.twist.validity = .lost ∧
    (twisted 201).sa.image.twist.validity ≠ .lost ∧
    (twisted 201).prm.kneel.twistLimit < ((twisted 201).sa.image.twist.value.natAbs : Int) ∧
    ((twisted 200).sa.image.twist.value.natAbs : Int) ≤ (twisted 200).prm.kneel.twistLimit ∧
    (twisted 201).pauseSetNow ≠ 0#6 ∧
    (twisted 200).pauseSetNow = 0#6 ∧
    (did (.frameBoundary .lvl .holdFirst) (twisted 0)).kns.state = .lowering ∧
    (did (.frameBoundary .lvl .holdFirst) (arrived .lowering)).kns.state = .knelt ∧
    (arrived .lowering).kns.state = .lowering ∧
    (did (.frameBoundary .lvl .holdFirst) lastDoor).kns.state = .raising ∧
    lastDoor.kns.state = .lowering ∧
    lastDoor.prm.kneel.autoRaise = true ∧
    lastDoor.allShut = false ∧
    (did (.frameBoundary .lvl .holdFirst) (arrived .raising)).kns.state = .ride ∧
    (arrived .raising).kns.state = .raising ∧
    (did (.frameBoundary .lvl .holdFirst) (kneelIn .raising)).kns.state = .raising ∧
    config.pfs.mode ≠ .run ∧
    config.kns.state ≠ .lowering ∧
    (did (.frameBoundary .lvl .holdFirst) stop).lvu.work.isSome = true := by
  decide +kernel

theorem witness_SetpointFollowsDemandRatioAndFloor :
    demanding.demandsSound = true ∧
    demanding.holdSound = true ∧
    demanding.loaded = true ∧
    State.reset.demandsSound = true ∧
    State.reset.holdSound = true ∧
    State.reset.loaded = false ∧
    0 < demanding.prm.hold.floor.get .a ∧
    ride.shc.state = .released := by
  decide +kernel

theorem witness_BrakeDemandsAreStoredAndExpire :
    stop.rst.low = false ∧
    stop.hears .f = true ∧
    stop.hears .r = true ∧
    stop.hears .b = true ∧
    stop.pfs.mode = .run ∧
    (demanding.bdu.demandOf .service).left ≠ 0 ∧
    (demanding.bdu.demandOf .intervention).left ≠ 0 ∧
    demanding.demandsSound = true ∧
    steps (queue (.demandExpiry .service) demanding) = true := by
  decide +kernel

theorem witness_ModulatorComputesWidthsAndDeviation :
    stop.rst.low = false ∧
    stop.bdu.work = none ∧
    modulating.bdu.work.isSome = true ∧
    modulating.rst.low = false ∧
    modulating.pfs.mode = .run ∧
    modulating.bdu.work.map (fun w => (w.setpoint.a - w.brp.a.value).natAbs) = some 101 ∧
    modulating.bdu.work.map (fun w => (w.setpoint.b - w.brp.b.value).natAbs) = some 100 ∧
    modulating.bdu.work.map (fun w => w.mode) = some .run ∧
    modulating.bdu.deviation.get .a = none ∧
    modulating.bdu.deviating.get .a = false ∧
    modulating.bdu.deviating.get .b = true ∧
    modulating.abandoned .a = false ∧
    modulating.bdu.work.map (fun w => w.abandoned) = some (.fill false) ∧
    modulating.bdu.deviation.get .c ≠ none ∧
    modulating.bdu.work.map (fun w => (w.setpoint.c - w.brp.c.value).natAbs) = some 101 ∧
    (modulating.bdu.deviation.get .c).isSome = true ∧
    modulating.pfu.group.brk.starved = true := by
  decide +kernel

theorem witness_SteerUpdateFollowsItsFormulas :
    steering.rst.low = false ∧
    (speedLost ride).sa.image.vspd.validity = .lost ∧
    prm.steer.table = (0, 410) :: prm.steer.table.tail ∧
    (ok 0).value ≤ 0 ∧
    (prm.steer.table.map (·.1)).Pairwise (· < ·) ∧
    prm.steer.table = prm.steer.table.take 6 ++ (3000, 90) :: (3500, 0) :: [] ∧
    (3000 : Int) ≤ (ok 3000).value ∧
    (ok 3000).value < 3500 ∧
    prm.steer.table = prm.steer.table.take 7 ++ [(3500, 0)] ∧
    (3500 : Int) ≤ (ok 3500).value ∧
    (starving .str).pfu.group.str.starved = true ∧
    faulted.centringDue = true ∧
    faulted.rst.low = false ∧
    steering.centringDue = false := by
  decide +kernel

theorem witness_SteerTimersAndTheJointComputation :
    (centring 1).rst.low = false ∧
    (centring 1).sju.settle.isSome = true ∧
    (centring 1).sju.state = .centring ∧
    (centring 1).lockCaused = true ∧
    (centring 1).sju.centring.isSome = true ∧
    (centring 1).sju.centringTimeout = true ∧
    (centring 1).sju.trackingError = true ∧
    (centring 1).sju.tracking.isSome = true ∧
    (centring 1).sju.state ≠ .faulted ∧
    stop.sju.work = none ∧
    stop.lvu.work = none ∧
    stop.rst.low = false ∧
    jointing.sju.work = some ⟨ok 4200, ok (-3000), true, prm.steer⟩ ∧
    jointing.rst.low = false ∧
    (ok 4200).validity ≠ .lost ∧
    ({ ok 0 with validity := .lost } : Rec).validity = .lost := by
  decide +kernel

theorem witness_StarvationAndDiagnosisTripTheChannelsThatSelectThem :
    stop.rst.low = false ∧
    (stop.pfu.group.get .lvl).starve.isSome = true ∧
    (stop.pfu.group.get .str).starve.isSome = true ∧
    (Chan.fill .al).group = .lvl ∧
    (stop.pfu.chan.get (.fill .al)).state = .armed ∧
    (stop.selects (.fill .al)).starved = true ∧
    FrameGroup.lvl ≠ .str ∧
    (did (.starvationTimerExpiry .str) State.reset).sju.state ≠ .faulted ∧
    State.reset.rst.low = false ∧
    State.reset.pfu.group.str.starve.isSome = true ∧
    (stop.withPfu { stop.pfu with active := { Values.zero with inlet := ⟨0, 0, 30⟩ } }).drives (.inlet .c) = true ∧
    (stop.pfu.chan.get (.inlet .c)).state = .armed ∧
    (stop.selects (.inlet .c)).diag = true ∧
    (tripped.pfu.chan.get (.inlet .a)).state ≠ .armed := by
  decide +kernel

theorem witness_ReadCommandsAnswerAndChangeNothing :
    stop.hears .f = true ∧
    stop.rst.low = false ∧
    stop.hears .f = true ∧
    stop.hears .r = true ∧
    stop.hears .b = true ∧
    ((did (.silenceTimerExpiry .r) stop).cp.port.get .r).silent = true ∧
    (did (.silenceTimerExpiry .r) stop).hears .r = true ∧
    [210, 128, 386, 6, 126, 34, 54, 162, 0, 12, 12].getD (10#8 : Byte).toNat 0 ≤ 12 ∧
    11 < [210, 128, 386, 6, 126, 34, 54, 162, 0, 12, 12].getD (10#8 : Byte).toNat 0 := by
  decide +kernel

theorem witness_FramesAreCheckedInTheOrderOfTheRule_frames :
    stop.rst.low = false ∧
    stop.hears .f = true ∧
    stop.hears .r = true ∧
    stop.hears .b = true ∧
    malformed [0x06#8, 0x00#8, 0xFF#8] = true ∧
    malformed [] = true ∧
    ([] : List Byte).length ≤ 48 ∧
    (List.replicate 48 0#8 : List Byte).length ≤ 48 ∧
    48 < (49#8).toNat ∧
    ([0x06#8, 0x02#8, 0xFF#8, 0x00#8] : List Byte).length < (0x02#8).toNat + 3 ∧
    0x08 < (0x09#8).toNat ∧
    (0x0F#8).toNat < 0x10 ∧
    0x1A < (0x1B#8).toNat ∧
    (0x1F#8).toNat < 0x20 ∧
    0x22 < (0x23#8).toNat ∧
    (stop.cp.port.get .f).reply = none ∧
    (stop.cp.port.get .f).shift = none := by
  decide +kernel

theorem witness_FramesAreCheckedInTheOrderOfTheRule_commands :
    frameOfCommand (.nop .f (List.replicate 49 0#8)) = some (.f, 0x00#8, List.replicate 49 0#8) ∧
    frameOfCommand (.holdRelease .b [1#8]) = some (.b, 0x11#8, [1#8]) ∧
    frameOfCommand (.kneel .f [0#8, 1#8]) = some (.f, 0x13#8, [0#8, 1#8]) ∧
    frameOfCommand (.rearm .b [0#8, 0#8, 0#8, 1#8]) = some (.b, 0x17#8, [0#8, 0#8, 0#8, 1#8]) ∧
    frameOfCommand (.heightModeNormal .r [0#8]) = some (.r, 0x12#8, [0#8]) ∧
    frameOfCommand (.readStatus .r [3#8]) = some (.r, 0x01#8, [3#8]) ∧
    stop.pfs.mode = .run ∧
    config.pfs.mode ≠ .run := by
  decide +kernel

theorem witness_DriveStatusAndSilenceOfAPort :
    (did (.driveStatus .r [0#8, 0#8, 0#8]) oneHeld).sa.image.vspd.validity = .lost ∧
    oneHeld.sa.image.vspd.validity ≠ .lost ∧
    (speedLost oneHeld).sa.image.vspd.validity = .lost ∧
    (did (.driveStatus .r [4#8, 1#8, 0x90#8]) (speedLost oneHeld)).sa.image.vspd.validity ≠ .lost ∧
    oneHeld.shc.creep = false ∧
    (did (.driveStatus .r [4#8, 1#8, 0x90#8]) oneHeld).shc.creep = true ∧
    stop.rst.low = false ∧
    stop.hears .f = true ∧
    stop.hears .r = true ∧
    stop.hears .b = true ∧
    stop.pfs.mode = .run ∧
    (5#8).getLsbD 2 = true ∧
    (0#8).getLsbD 2 = false ∧
    ((did (.silenceTimerExpiry .r) stop).cp.port.get .r).silence = none ∧
    (stop.cp.port.get .r).silence.isSome = true ∧
    (Wheel.all.filter fun w => (oneHeld.sa.image.wsp.get w).usable).length < 2 ∧
    oneHeld.hears .r = true ∧
    oneHeld.pfs.mode = .run ∧
    2 ≤ (Wheel.all.filter fun w => (stop.sa.image.wsp.get w).usable).length ∧
    stop.sa.image.vspd = vspdOf stop.sa ∧
    PortId.f ≠ .r ∧
    15000 < (0x4E#8).toNat * 256 + (0x20#8).toNat := by
  decide +kernel

theorem witness_ProfileIsWrittenConfirmedAndRun :
    config.hears .f = true ∧
    config.hears .b = true ∧
    config.pfs.mode = .config ∧
    config.profileSound = true ∧
    ([] : List Byte).length ≤ 45 ∧
    [210, 128, 386, 6, 126, 34, 54, 162, 0, 12, 12].getD (9#8 : Byte).toNat 0 < 12 + 1 ∧
    (11 : Nat) + 1 ≤ [210, 128, 386, 6, 126, 34, 54, 162, 0, 12, 12].getD (9#8 : Byte).toNat 0 ∧
    [210, 128, 386, 6, 126, 34, 54, 162, 0, 12, 12].getD (8#8 : Byte).toNat 0 = 0 ∧
    0 < [210, 128, 386, 6, 126, 34, 54, 162, 0, 12, 12].getD (9#8 : Byte).toNat 0 ∧
    (12 : Nat) + ([] : List Byte).length ≤ [210, 128, 386, 6, 126, 34, 54, 162, 0, 12, 12].getD (9#8 : Byte).toNat 0
      ∧
    confirmed.hears .b = true ∧
    confirmed.pfs.mode = .config ∧
    confirmed.pfs.confirmF = true ∧
    failingSection good = none ∧
    confirmed.pfs.profile = good ∧
    good.wf = true ∧
    confirmed.profileSound = true ∧
    config.pfs.confirmF = false ∧
    config.pfs.confirmB = false ∧
    failingSection config.pfs.profile = some 0 ∧
    confirmed.shc.state = .released ∧
    confirmed.sa.image.vspd.validity = .fresh ∧
    (confirmed.pfu.chan.get .joint).state = .idle ∧
    (confirmed.withImage { image with vspd := ok 301 }).sa.image.vspd.value = 301 ∧
    (readHold good).entrySpeed = 300 := by
  decide +kernel

theorem witness_ProfileIsWrittenConfirmedAndRun_channels :
    failingSection selective = none ∧
    choosing.hears .b = true ∧
    choosing.pfs.mode = .config ∧
    choosing.pfs.confirmF = true ∧
    choosing.pfs.profile = selective ∧
    (readFrames selective).sel.get (.inlet .a) = ⟨true, true, true, some 88⟩ ∧
    (readFrames selective).sel.get .joint = ⟨false, false, false, none⟩ ∧
    (choosing.pfu.chan.get (.inlet .a)).state = .idle ∧
    (choosing.pfu.chan.get .joint).state = .idle ∧
    (choosing.withImage { image with vsup := { ok 0 with validity := .lost } }).sa.image.vsup.validity = .lost ∧
    choosing.sa.image.vsup.validity ≠ .lost ∧
    ¬ choosing.sa.image.vsup.value < (readSignals selective).vsupLow ∧
    (choosing.pfu.chan.get (.inlet .a)).overCurrent = false ∧
    ((choosing.setChan (.inlet .a) ⟨.idle, none, 0, false, false, true⟩).pfu.chan.get (.inlet .a)).openLoad = true ∧
    (choosing.pfu.group.get (Chan.inlet .a).group).starved = false ∧
    (choosing.withPfu
      { choosing.pfu with group := choosing.pfu.group.set .brk ⟨false, none, true, 0#16⟩ }).pfu.group.brk.starved =
      true ∧
    choosing.source 88 = false ∧
    (choosing.withCiu { choosing.ciu with scratch := 1#16 }).source 88 = true := by
  decide +kernel

theorem witness_SafeEntryStartUpAndIntegrity :
    stop.rst.low = false ∧
    stop.hears .f = true ∧
    stop.hears .r = true ∧
    stop.hears .b = true ∧
    stop.pfs.mode ≠ .safe ∧
    stop.pfs.integrity.isSome = true ∧
    stop.pfs.mode = .run ∧
    config.pfs.mode ≠ .run ∧
    State.reset.pfs.startUp.isSome = true ∧
    State.reset.pfs.mode = .start ∧
    State.reset.rst.low = false ∧
    (State.reset.sa.image.byId 27).validity = .lost ∧
    (State.reset.dcu.get .d1).phase ≠ .released ∧
    stop.sju.state ≠ .faulted ∧
    kneeling.floorsSound = true ∧
    kneeling.consumersSound = true ∧
    kneeling.kns.state = .lowering ∧
    hasCorner kneeling.lvu.kneelSet .ar = true ∧
    kneeling.pfs.mode ≠ .safe ∧
    kneeling.hears .f = true ∧
    doorsOut.floorsSound = true ∧
    doorsOut.consumersSound = true ∧
    (doorsOut.dcu.get .d1).phase = .released ∧
    doorsOut.hears .r = true ∧
    (doorsOut.dcu.get .d3).phase = .opened ∧
    (doorsOut.dcu.get .d3).closed = .made ∧
    (doorsOut.dcu.get .d3).proofTimer = none ∧
    creeping.shc.creep = true ∧
    modulating.bdu.deviating.get .b = true ∧
    (did (.enterSafe .f []) stop).ciu.perms ≠ stop.ciu.perms := by
  decide +kernel

theorem witness_FaultsAreRaisedAndEndedAsTheListAllows :
    (∀ t ∈ [finishWith 1 passing (raiseFault .portSilent 2 passing), settleRequests passing (raiseFault .portSilent
      2 passing), requestChanged passing (raiseFault .portSilent 2 passing)], passing.faultPresent ≠ t.faultPresent)
      ∧
    (raiseFault .portSilent 2 stop).pfs.faults = [] ++ ⟨.portSilent, 2, 0, 1, true⟩ :: [] ∧
    (endFault .portSilent 2 (raiseFault .portSilent 2 stop)).pfs.faults = [] ++ ⟨.portSilent, 2, 0, 1, false⟩ :: []
      ∧
    stop.pfs.faults.length < 24 ∧
    (did .startUpTimerExpiry State.reset).pfs.faults.length = 24 ∧
    ∀ e ∈ (did .startUpTimerExpiry State.reset).pfs.faults, e.active = true ∧
    ¬ (e.kind = .portSilent ∧ e.source = 2) ∧
    24 ≤ (endFault .sensorLost 3 (did .startUpTimerExpiry State.reset)).pfs.faults.length ∧
    ∃ e ∈ (endFault .sensorLost 3 (did .startUpTimerExpiry State.reset)).pfs.faults, e.active = false ∧
    stop.faultPresent ≠ (raiseFault .portSilent 2 stop).faultPresent ∧
    stop.ciu.pass = (raiseFault .portSilent 2 stop).ciu.pass ∧
    (passing.ciu.pass = (raiseFault .portSilent 2 passing).ciu.pass) ∧
    (raiseFault .portSilent 2 passing).ciu.pass.isSome = true ∧
    passing.faultPresent ≠ (raiseFault .portSilent 2 passing).faultPresent := by
  decide +kernel

theorem witness_DoorIsReleasedOnlyUnderItsPermission_withdrawal :
    fasterOut.consumersSound = true ∧
    (fasterOut.dcu.get .d1).phase = .released ∧
    steps (queue (.wheelSpeedEvaluation (.fill false) 0) fasterOut) = true ∧
    (did (.wheelSpeedEvaluation (.fill false) 0) fasterOut).ciu.perms.door.get .d1 = false ∧
    kneeling.consumersSound = true ∧
    kneeling.kns.state = .lowering ∧
    steps (queue (.vsupSample (some 2050)) kneeling) = true ∧
    (did (.vsupSample (some 2050)) kneeling).ciu.perms.kneel = false ∧
    releasing.consumersSound = true ∧
    releasing.shc.state = .releasing ∧
    steps (queue (.closedSwitchBreak .d1) releasing) = true ∧
    (did (.closedSwitchBreak .d1) releasing).ciu.perms.holdRelease = false ∧
    raisedAlone.consumersSound = true ∧
    raisedAlone.lvu.heightMode = .raised ∧
    steps (queue .portRSpeedExpiry raisedAlone) = true ∧
    (did .portRSpeedExpiry raisedAlone).ciu.perms.heightRaised = false := by
  decide +kernel

theorem witness_ChannelArmsOnlyAtBoundaryOrRunEntry_trips :
    stop.tripsSound = true ∧
    steps (queue (.vsupSample (some 2050)) stop) = true ∧
    steps (queue (.nop .f []) stop) = true ∧
    ((did (.nop .f []) stop).pfu.chan.get (.inlet .a)).state = .armed ∧
    (stop.selects (.inlet .a)).vsup = true ∧
    (stop.selects (.inlet .a)).diag = true ∧
    (stop.selects (.inlet .a)).starved = true ∧
    selecting.tripsSound = true ∧
    (selecting.selects .joint).index = some 65 ∧
    ((did (.nop .f []) selecting).pfu.chan.get .joint).state = .armed ∧
    stop.bridgeSound = true ∧
    (did (.enterSafe .f []) stop).bridgeSound = true ∧
    (did (.enterSafe .f []) stop).pfu.chan.bridge.state = .tripped ∧
    steps (queue (.nop .f []) (did (.enterSafe .f []) stop)) = true := by
  decide +kernel

theorem witness_SetpointsLieBetweenFloorAndLimit_ratio :
    laden.ratioSound = true ∧
    laden.loaded = true ∧
    laden.kns.freeze = false ∧
    steps (queue (.nop .f []) laden) = true ∧
    (laden.sa.image.load.get .a).validity ≠ .lost ∧
    State.reset.ratioSound = true ∧
    State.reset.loaded = false ∧
    unladen.ratioSound = true ∧
    (unladen.sa.image.load.get .a).validity = .lost ∧
    unladen.loaded = true ∧
    unladen.kns.freeze = false ∧
    kneeling.pfs.mode = .run ∧
    kneeling.kns.freeze = true ∧
    kneeling.ratioSound = true ∧
    steps (queue (.bellowsSample (.fill (some 500))) kneeling) = true ∧
    (did (.bellowsSample (.fill (some 500))) kneeling).kns.freeze = true ∧
    (did (.enterSafe .f []) kneeling).pfs.mode = .safe ∧
    (did (.enterSafe .f []) kneeling).kns.freeze = true ∧
    (did (.bellowsSample (.fill (some 500))) (did (.enterSafe .f []) kneeling)).kns.freeze = true := by
  decide +kernel

theorem witness_DoorTimersAndSamplesMoveTheDoor_moving :
    (faster (doorIn .opened)).movingSound = true ∧
    ((faster (doorIn .opened)).dcu.get .d1).moving = false ∧
    steps (queue (.wheelSpeedEvaluation (.fill false) 0) (faster (doorIn .opened))) = true ∧
    ((did (.wheelSpeedEvaluation (.fill false) 0) (faster (doorIn .opened))).dcu.get .d1).phase ≠ .shut ∧
    ((did (.wheelSpeedEvaluation (.fill false) 0) (faster (doorIn .opened))).dcu.get .d1).moving = true ∧
    moving.movingSound = true ∧
    (moving.dcu.get .d1).moving = true ∧
    steps (queue (.proofTimerExpiry .d1) moving) = true ∧
    ((did (.proofTimerExpiry .d1) moving).dcu.get .d1).phase = .shut ∧
    ((did (.proofTimerExpiry .d1) moving).dcu.get .d1).moving = false ∧
    (speedLost moving).movingSound = true ∧
    (speedLost moving).sa.image.vspd.validity = .lost ∧
    steps (queue (.nop .f []) (speedLost moving)) = true ∧
    ((did (.nop .f []) (speedLost moving)).dcu.get .d1).phase = ((speedLost moving).dcu.get .d1).phase := by
  decide +kernel

theorem witness_ModulatorComputesWidthsAndDeviation_abandonment :
    stop.abandonSound = true ∧
    stop.abandoned .a = false ∧
    steps (queue (.vsupSample (some 2050)) stop) = true ∧
    lowSupply.abandoned .a = true ∧
    lowSupply.pfs.mode = .run ∧
    0 < lowSupply.prm.hold.floor.get .a ∧
    modulating.abandonSound = true ∧
    modulating.bdu.deviating.get .b = true ∧
    modulating.abandoned .b = false ∧
    (did (.vsupSample (some 2050)) modulating).abandoned .b = true ∧
    State.reset.abandonSound = true ∧
    (did .startUpTimerExpiry State.reset).pfs.mode ≠ .run ∧
    (did (.enterSafe .f []) stop).pfs.mode = .safe := by
  decide +kernel

theorem two_bytes_spell_a_check_word (x : BitVec 16) :
    ∃ hi lo : Byte, hi.toNat * 256 + lo.toNat = x.toNat := by
  refine ⟨BitVec.ofNat 8 (x.toNat / 256), BitVec.ofNat 8 (x.toNat % 256), ?_⟩
  have := x.isLt
  simp only [BitVec.toNat_ofNat]
  omega

/-- PROFILE_CONFIRM with the right operand: two bytes spell the check word, whatever it is. -/
theorem witness_ProfileIsWrittenConfirmedAndRun_rightWord :
    ∃ hi lo : Byte, hi.toNat * 256 + lo.toNat = (profileCheck confirmed.pfs.profile).toNat :=
  two_bytes_spell_a_check_word _

/-- ... and two bytes spell another word. -/
theorem witness_ProfileIsWrittenConfirmedAndRun_wrongWord :
    ∃ hi lo : Byte, hi.toNat * 256 + lo.toNat ≠ (profileCheck confirmed.pfs.profile).toNat := by
  obtain ⟨hi, lo, h⟩ := two_bytes_spell_a_check_word (~~~profileCheck confirmed.pfs.profile)
  refine ⟨hi, lo, fun e => ?_⟩
  rw [h] at e
  simp only [BitVec.toNat_not] at e
  omega

theorem recordedAs_profile (w : BitVec 16) : (recordedAs w).pfs.profile = stop.pfs.profile := rfl

theorem recordedAs_recorded (w : BitVec 16) : (recordedAs w).pfs.recorded = w := rfl

/-- The recorded check word of a sound profile. -/
theorem witness_SafeEntryStartUpAndIntegrity_sound :
    ∃ w, profileCheck (recordedAs w).pfs.profile = (recordedAs w).pfs.recorded := by
  refine ⟨profileCheck stop.pfs.profile, ?_⟩
  rw [recordedAs_profile, recordedAs_recorded]

/-- The recorded check word of a corrupted profile. -/
theorem witness_SafeEntryStartUpAndIntegrity_broken :
    ∃ w, profileCheck (recordedAs w).pfs.profile ≠ (recordedAs w).pfs.recorded := by
  refine ⟨~~~profileCheck stop.pfs.profile, ?_⟩
  rw [recordedAs_profile, recordedAs_recorded]
  generalize profileCheck stop.pfs.profile = x
  intro e
  have := congrArg BitVec.toNat e
  simp only [BitVec.toNat_not] at this
  omega

end Sys2Proof.Tests
end

/-! PROOF. The compare slots and the terms of the gate program (spec/02 sections 2.1 and 2.4): the condition field of a
loaded slot, the one bit a term writes, and O29. -/

namespace Sys2Proof.Machine

/-! ### The condition field of a slot (R26, R27) -/

/-- Only a LOST record is not usable (R2). -/
theorem Rec.usable_iff (r : Rec) : r.usable = true ↔ r.validity ≠ .lost := by
  simp only [Rec.usable, Validity.usable, decide_eq_true_iff]

/-- The field of a loaded slot that is not used. -/
theorem State.cond_unused {s : State} {k : Nat} {p : SlotParams} (hk : s.slot? k = some p)
    (hp : p.signal = none) : s.cond k = ⟨false, false, false, false⟩ := by
  simp only [State.cond, hk, hp]

/-- The field of a loaded slot that selects a record. -/
theorem State.cond_used {s : State} {k id : Nat} {p : SlotParams} (hk : s.slot? k = some p)
    (hp : p.signal = some id) :
    s.cond k = .of p (s.sa.image.byId id) (s.ciu.latches.getLsbD k) := by
  simp only [State.cond, hk, hp]

section ConditionField

variable {p : SlotParams} {r : Rec} (latch : Bool)

/-- A LOST record leaves LOW, MATCH and HIGH clear, wherever its value lies. -/
theorem Cond.of_lost (h : r.validity = .lost) :
    (Cond.of p r latch).low = false ∧ (Cond.of p r latch).mtch = false ∧ (Cond.of p r latch).high = false := by
  have hr : r.usable = false := by simpa [h] using r.usable_iff
  simp [Cond.of, hr]

/-- LOW of a usable record. -/
theorem Cond.of_low_iff (h : r.validity ≠ .lost) :
    (Cond.of p r latch).low = true ↔ r.value < p.threshold - p.halfWidth := by
  simp [Cond.of, r.usable_iff.mpr h]

/-- MATCH of a usable record. -/
theorem Cond.of_mtch_iff (h : r.validity ≠ .lost) :
    (Cond.of p r latch).mtch = true ↔
      p.threshold - p.halfWidth ≤ r.value ∧ r.value ≤ p.threshold + p.halfWidth := by
  simp [Cond.of, r.usable_iff.mpr h]

/-- HIGH of a usable record. -/
theorem Cond.of_high_iff (h : r.validity ≠ .lost) :
    (Cond.of p r latch).high = true ↔ p.threshold + p.halfWidth < r.value := by
  simp [Cond.of, r.usable_iff.mpr h]

/-- R27's closing sentence: the value lies below, in or above the interval. A negative half-width is what would break
it: the interval is then empty, and a value can be both below its start and above its end. -/
theorem Cond.of_exactly_one (h : r.validity ≠ .lost) (hw : 0 ≤ p.halfWidth) :
    (Cond.of p r latch).low.toNat + (Cond.of p r latch).mtch.toNat + (Cond.of p r latch).high.toNat = 1 := by
  have hr : r.usable = true := r.usable_iff.mpr h
  obtain below | ⟨fromStart, toEnd⟩ | above : r.value < p.threshold - p.halfWidth ∨
      (p.threshold - p.halfWidth ≤ r.value ∧ r.value ≤ p.threshold + p.halfWidth) ∨
      p.threshold + p.halfWidth < r.value := by omega
  · have notAbove : r.value ≤ p.threshold + p.halfWidth := by omega
    simp [Cond.of, hr, below, below.not_ge, notAbove.not_gt]
  · simp [Cond.of, hr, fromStart, toEnd, fromStart.not_gt, toEnd.not_gt]
  · have notBelow : p.threshold - p.halfWidth ≤ r.value := by omega
    simp [Cond.of, hr, above, above.not_ge, notBelow.not_gt]

end ConditionField

/-! ### One term, and the terms in list order (R35, R38) -/

/-- A term writes its result into its target bit. -/
theorem runTerm_target (snap : List Bool) {work : List Bool} {tm : Term} (h : tm.target - 88 < work.length) :
    (runTerm snap work tm).getD (tm.target - 88) false =
      operate tm.op (readSource snap work tm.a) (readSource snap work tm.b) := by
  simp [runTerm, List.getD_eq_getElem?_getD, h]

/-- A term writes no other bit. -/
theorem runTerm_other (snap work : List Bool) {tm : Term} {j : Nat} (h : j ≠ tm.target - 88) :
    (runTerm snap work tm).getD j false = work.getD j false := by
  simp [runTerm, List.getD_eq_getElem?_getD, h.symm]

/-- The last term of a list works on what the terms before it left. -/
theorem runTerms_concat (snap : List Bool) (prog : List Term) (tm : Term) :
    runTerms snap (prog ++ [tm]) = runTerm snap (runTerms snap prog) tm :=
  List.foldl_concat ..

/-- Settles O29: the field by its three cases (unused slot, LOST record, usable record), the term by whether the bit
asked for is its target. -/
theorem compareFieldsAndTermsFollowTheirRules : Obligations.CompareFieldsAndTermsFollowTheirRules := by
  unfold Obligations.CompareFieldsAndTermsFollowTheirRules
  refine ⟨fun s k _ p hk => ⟨fun hunused => ?_, fun id hid => ?_⟩, fun snap work tm j hlo hhi _ => ?_, runTerms_concat⟩
  · simp only [State.cond_unused hk hunused, and_self]
  · rw [State.cond_used hk hid]
    exact ⟨Cond.of_lost _, fun h => ⟨Cond.of_low_iff _ h, Cond.of_mtch_iff _ h, Cond.of_high_iff _ h,
      Cond.of_exactly_one _ h⟩⟩
  · by_cases hj : j = tm.target - 88
    · subst hj
      rw [if_pos rfl]
      exact runTerm_target snap (by omega)
    · rw [if_neg hj]
      exact runTerm_other snap work hj

end Sys2Proof.Machine

/-! PROOF. The pull-away inhibit (spec/03 section 3.5, R62): the reported set by its causes, the inhibit by the set, its
place in the STATUS summary, and O36. -/

namespace Sys2Proof.Machine

/-- The opposite of being SHUT. -/
theorem State.not_isShut (s : State) (d : Door) : (!s.isShut d) = decide ((s.dcu.get d).phase ≠ .shut) :=
  decide_not.symm

/-- A door is in the set while its phase is not SHUT. -/
theorem State.inhibitCauses_doorNotShut (s : State) :
    s.inhibitCauses.doorNotShut = .ofFn fun d => decide ((s.dcu.get d).phase ≠ .shut) :=
  congrArg PerDoor.ofFn (funext s.not_isShut)

/-- The set that is reported, cause by cause in the order of R62. -/
theorem State.inhibitCauses_members (s : State) :
    s.inhibitCauses.members = [decide (s.pfs.mode ≠ .run), decide (s.shc.state ≠ .released),
      decide (s.kns.state ≠ .ride), decide (s.dcu.d1.phase ≠ .shut), decide (s.dcu.d2.phase ≠ .shut),
      decide (s.dcu.d3.phase ≠ .shut), decide (s.dcu.d4.phase ≠ .shut)] := by
  rw [InhibitCauses.members, State.inhibitCauses_doorNotShut]
  rfl

/-- Some door has a property as soon as one of the four has it. -/
theorem PerDoor.exists_get_iff {α : Type} (v : PerDoor α) (P : α → Prop) :
    (∃ d : Door, P (v.get d)) ↔ P v.d1 ∨ P v.d2 ∨ P v.d3 ∨ P v.d4 := by
  constructor
  · rintro ⟨d, h⟩
    cases d with
    | d1 => exact .inl h
    | d2 => exact .inr (.inl h)
    | d3 => exact .inr (.inr (.inl h))
    | d4 => exact .inr (.inr (.inr h))
  · rintro (h | h | h | h)
    · exact ⟨.d1, h⟩
    · exact ⟨.d2, h⟩
    · exact ⟨.d3, h⟩
    · exact ⟨.d4, h⟩

/-- The inhibit is asserted while one of its causes holds. -/
theorem State.inhibit_iff (s : State) :
    s.inhibit = true ↔ s.pfs.mode ≠ .run ∨ s.shc.state ≠ .released ∨ s.kns.state ≠ .ride ∨
      ∃ d : Door, (s.dcu.get d).phase ≠ .shut := by
  rw [PerDoor.exists_get_iff s.dcu (·.phase ≠ .shut), State.inhibit, State.inhibitCauses_members]
  simp only [List.any_cons, List.any_nil, id_eq, Bool.or_eq_true, decide_eq_true_eq, Bool.false_eq_true, or_false]

/-- A flag added to an even number is the lowest bit of the byte. -/
theorem getLsbD_zero_ofNat_even_add (n : Nat) (b : Bool) :
    (BitVec.ofNat 8 (2 * n + b.toNat)).getLsbD 0 = b := by
  rw [BitVec.getLsbD_ofNat, Nat.testBit_zero, Nat.mul_add_mod]
  cases b <;> rfl

/-- The fields above the inhibit in the first STATUS byte are multiples of 2 (R183). -/
theorem State.status_head (s : State) (p : PortId) :
    (s.status p).head? = some (BitVec.ofNat 8
      (2 * (s.pfs.mode.code * 32 + s.shc.state.code * 8 + s.kns.state.code) + s.inhibit.toNat)) := by
  have even : s.pfs.mode.code * 64 + s.shc.state.code * 16 + s.kns.state.code * 2 =
      2 * (s.pfs.mode.code * 32 + s.shc.state.code * 8 + s.kns.state.code) := by omega
  simp only [State.status, byte1, even, List.cons_append, List.head?_cons]

/-- Settles O36: the inhibit is the disjunction of the reported set, and stands below the even part of its byte. -/
theorem inhibitFollowsItsCauses : Obligations.InhibitFollowsItsCauses := by
  unfold Obligations.InhibitFollowsItsCauses
  exact fun s => ⟨s.inhibit_iff, s.inhibitCauses_members, fun p =>
    ⟨_, s.status_head p, getLsbD_zero_ofNat_even_add _ s.inhibit⟩⟩

end Sys2Proof.Machine

/-! PROOF. The setpoint of an axle (spec/07 section 7.4, R130): the demand of the sources that have not expired (R125),
the effective floor by hold state (R47), the limit and the saturation flag, and O49. -/

namespace Sys2Proof.Machine

/-! ### The axles of a filled and of a tabulated record -/

@[simp] theorem PerAxle.get_fill {α : Type} (v : α) (x : Axle) : (PerAxle.fill v).get x = v := by
  cases x <;> rfl

@[simp] theorem PerAxle.get_ofFn {α : Type} (f : Axle → α) (x : Axle) : (PerAxle.ofFn f).get x = f x := by
  cases x <;> rfl

/-! ### The demand (R125 and step 1 of R130) -/

/-- What `demandsSound` says of the two sources. -/
theorem State.demandsSound_iff (s : State) : s.demandsSound = true ↔
    (s.bdu.service.left = 0 → s.bdu.service.pressure = .fill 0) ∧
      (s.bdu.intervention.left = 0 → s.bdu.intervention.pressure = .fill 0) := by
  simp only [State.demandsSound, Bool.and_eq_true, Bool.or_eq_true, decide_eq_true_eq, ne_eq,
    ← Decidable.imp_iff_not_or]

/-- Where an expired source has pressure 0, reading its record is reading an expired one as 0. -/
theorem Demand.expired_reads_zero {d : Demand} (h : d.left = 0 → d.pressure = .fill 0) (x : Axle) :
    d.pressure.get x = if d.left = 0 then 0 else d.pressure.get x := by
  split
  · next expired => rw [h expired, PerAxle.get_fill]
  · rfl

/-- The demand is the larger pressure of the two sources, an expired one counting as 0. -/
theorem State.demand_of_demandsSound {s : State} (h : s.demandsSound = true) (x : Axle) :
    s.demand x = ((max (if s.bdu.service.left = 0 then 0 else s.bdu.service.pressure.get x)
      (if s.bdu.intervention.left = 0 then 0 else s.bdu.intervention.pressure.get x) : Nat) : Int) := by
  obtain ⟨service, intervention⟩ := s.demandsSound_iff.mp h
  rw [← Demand.expired_reads_zero service, ← Demand.expired_reads_zero intervention, State.demand]

/-! ### The effective floor (R47) -/

theorem State.holdAxle_eq_false_iff (s : State) (x : Axle) :
    s.holdAxle x = false ↔ s.prm.hold.floor.get x ≤ 0 := by
  simp only [State.holdAxle, decide_eq_false_iff_not, not_lt]

theorem State.fullFloor_of_not_holdAxle {s : State} {x : Axle} (h : s.holdAxle x = false) : s.fullFloor x = 0 := by
  simp only [State.fullFloor, h, Bool.false_eq_true, if_false]

/-- Every axle is listed. -/
theorem Axle.mem_all (x : Axle) : x ∈ Axle.all := by
  cases x <;> decide

section EffectiveFloor

variable {s : State} (h : s.holdSound = true)
include h

/-- In RELEASED every effective floor is 0. -/
theorem State.floor_of_released (hs : s.shc.state = .released) (x : Axle) : s.shc.floor.get x = 0 := by
  simp only [State.holdSound, hs, Bool.and_eq_true, decide_eq_true_eq] at h
  obtain ⟨-, floors, -⟩ := h
  rw [floors, PerAxle.get_fill]

/-- In APPLYING and APPLIED every effective floor is the full one. -/
theorem State.floor_of_holding (hs : s.shc.state = .applying ∨ s.shc.state = .applied) (x : Axle) :
    s.shc.floor.get x = s.fullFloor x := by
  have floors : s.shc.floor = s.fullFloors := by
    obtain hs | hs := hs <;>
    · simp only [State.holdSound, hs, Bool.and_eq_true, decide_eq_true_eq] at h
      exact h.2
  rw [floors, State.fullFloors, PerAxle.get_ofFn]

/-- In RELEASING the ramp leaves an axle that is not a hold axle at 0. -/
theorem State.floor_of_releasing (hs : s.shc.state = .releasing) {x : Axle} (hx : s.holdAxle x = false) :
    s.shc.floor.get x = 0 := by
  simp only [State.holdSound, hs, Bool.and_eq_true, List.all_eq_true, Bool.or_eq_true, decide_eq_true_eq] at h
  obtain ⟨-, -, floors⟩ := h
  exact (floors x (Axle.mem_all x)).resolve_left (by simp [hx])

/-- An axle that is not a hold axle has no floor, whatever the hold state. -/
theorem State.floor_of_not_holdAxle {x : Axle} (hx : s.holdAxle x = false) : s.shc.floor.get x = 0 := by
  cases hs : s.shc.state with
  | released => exact State.floor_of_released h hs x
  | applying => rw [State.floor_of_holding h (.inl hs), State.fullFloor_of_not_holdAxle hx]
  | applied => rw [State.floor_of_holding h (.inr hs), State.fullFloor_of_not_holdAxle hx]
  | releasing => exact State.floor_of_releasing h hs hx

end EffectiveFloor

/-! ### The limit and the saturation flag (steps 4 and 5 of R130) -/

section Limit

variable {s : State} (x : Axle)

theorem State.setpoint_of_loaded (h : s.loaded = true) :
    s.setpoint x = min (s.raisedDemand x) (s.prm.brake.pMax.get x) := by
  rw [State.setpoint, if_pos h]

theorem State.setpoint_of_unloaded (h : s.loaded = false) : s.setpoint x = 0 := by
  simp only [State.setpoint, h, Bool.false_eq_true, if_false]

theorem State.saturated_of_unloaded (h : s.loaded = false) : s.saturated x = false := by
  rw [State.saturated, h, Bool.false_and]

/-- The flag is set exactly when the limit lowered the raised demand. -/
theorem State.saturated_iff (h : s.loaded = true) :
    s.saturated x = true ↔ min (s.raisedDemand x) (s.prm.brake.pMax.get x) < s.raisedDemand x := by
  rw [State.saturated, h, Bool.true_and, decide_eq_true_iff, min_lt_iff, or_iff_right (lt_irrefl _)]

end Limit

/-- The scaled demand raised to the effective floor (steps 2 and 3 of R130). -/
theorem State.raisedDemand_eq (s : State) (x : Axle) :
    s.raisedDemand x = max (Int.fdiv (s.demand x * s.bdu.ratio.get x) 1024) (s.shc.floor.get x) := rfl

/-- Settles O49: the floor by hold state, and the setpoint by whether the section is loaded, over the raised demand. -/
theorem setpointFollowsDemandRatioAndFloor : Obligations.SetpointFollowsDemandRatioAndFloor := by
  unfold Obligations.SetpointFollowsDemandRatioAndFloor
  intro s x demands hold
  refine ⟨⟨fun noFloor => ?_, fun loaded => ?_⟩,
    fun unloaded => ⟨State.setpoint_of_unloaded x unloaded, State.saturated_of_unloaded x unloaded⟩⟩
  · obtain notHold | released := noFloor
    · exact State.floor_of_not_holdAxle hold ((s.holdAxle_eq_false_iff x).mpr notHold)
    · exact State.floor_of_released hold released x
  · rw [← State.demand_of_demandsSound demands, ← State.raisedDemand_eq]
    exact ⟨State.setpoint_of_loaded x loaded, State.saturated_iff x loaded⟩

end Sys2Proof.Machine
